-- ==== Sys2Proof/Word.lean ====
section
/-! DEFINITION. The word types of the part: bytes of the three serial paths, 16-bit fields, pixels. -/

namespace Sys2Proof

/-- One byte of a packet, a report, a table record or a tablet frame (R175). -/
abbrev Byte := BitVec 8

/-- A 16-bit field: epoch, sequence number, handle, CRC (R175). -/
abbrev Word16 := BitVec 16

/-- One pixel, red in bits 23:16, green in 15:8, blue in 7:0 (section 1.1). -/
abbrev Rgb := BitVec 24

end Sys2Proof
end

