-- ==== Sys2Proof/Syntax.lean ====
section
/-! DEFINITION. The commands and events of the part, one constructor per row of spec/opcode_table.json.

A packet row stands for a GOOD packet of its class (check sum 0, R15) at the event at which it is handed over (R17); its
operands are the tag and the payload bytes as they arrive, so the length test of R176 is part of its meaning. -/

namespace Sys2Proof

/-- The levels of the four strap pins (R52, R164): `true` is high. -/
structure Straps where
  trate1 : Bool
  trate0 : Bool
  rrate1 : Bool
  rrate0 : Bool
deriving DecidableEq, Repr

/-- One of the two snap banks (R67). -/
inductive BankId where
  | snap0
  | snap1
deriving DecidableEq, Repr

/-- The commands and events. -/
inductive Instr where
  /-- POWER_ON (R180): power-on completes with the straps at these levels. -/
  | powerOn (straps : Straps)
  /-- RESET_PIN_ASSERT (R180): RESET_N has been low for 1 µs. -/
  | resetPinAssert
  /-- RESET_PIN_RELEASE (R180): the rising edge of RESET_N, the straps at these levels. -/
  | resetPinRelease (straps : Straps)
  /-- CONTROL_BYTE_CYCLE (R3): an input cycle with VCX high and VDE low. -/
  | controlByteCycle (vd : Rgb) (vhs vvs : Bool)
  /-- VCX_IN_ACTIVE_VIDEO (R4): an input cycle with VCX and VDE high. -/
  | vcxInActiveVideo (vd : Rgb) (vhs vvs : Bool)
  /-- PIXEL_CYCLE (R2): an input cycle with VDE high and VCX low. -/
  | pixelCycle (vd : Rgb) (vhs vvs : Bool)
  /-- LINE_END (R5): an input cycle with VDE and VCX low; the first one after a line ends the line. -/
  | lineEnd (vd : Rgb) (vhs vvs : Bool)
  /-- FRAME_START (R7): an input cycle with VVS high; after a cycle with VVS low it is the leading edge. -/
  | frameStart (vd : Rgb) (vhs vde vcx : Bool)
  /-- LOCK_SILENCE_EXPIRY (R10): the 100 ms frame-start silence timer expires. -/
  | lockSilenceExpiry
  /-- PACKET_UNKNOWN_CLASS (R17): a good packet whose class code is none of R176's. -/
  | packetUnknownClass (cls tag : Byte) (payload : List Byte)
  /-- SET (R20). -/
  | set (tag : Byte) (payload : List Byte)
  /-- READ (R24). -/
  | read (tag : Byte) (payload : List Byte)
  /-- READ_IDENTITY (R25): a READ of group IDENTITY. -/
  | readIdentity (tag : Byte)
  /-- READ_STATUS (R26): a READ of group STATUS. -/
  | readStatus (tag : Byte)
  /-- LOAD_BEGIN (R69). -/
  | loadBegin (tag : Byte) (payload : List Byte)
  /-- LOAD_DATA (R72). -/
  | loadData (tag : Byte) (payload : List Byte)
  /-- LOAD_END (R74). -/
  | loadEnd (tag : Byte) (payload : List Byte)
  /-- BUILD_COMPLETE (R78): the scatter pass of this bank's build ends. -/
  | buildComplete (bank : BankId)
  /-- ACTIVATE (R80). -/
  | activate (tag : Byte) (payload : List Byte)
  /-- VERIFY (R85). -/
  | verify (tag : Byte) (payload : List Byte)
  /-- VERIFY_INTERVAL_EXPIRY (R86): the interval counter reaches verify_interval. -/
  | verifyIntervalExpiry
  /-- VERIFY_COMPLETE (R89): the verify reads the last entry; `upset` is what a physical disturbance of the stored
  entries has changed in their CRC, 0 where there is none (DESIGN CHOICE, log entry 8). -/
  | verifyComplete (upset : Word16)
  /-- GESTURE (R121). -/
  | gesture (tag : Byte) (payload : List Byte)
  /-- COMMIT (R124). -/
  | commit (tag : Byte) (payload : List Byte)
  /-- END (R129). -/
  | endGesture (tag : Byte) (payload : List Byte)
  /-- CANCEL (R130). -/
  | cancel (tag : Byte) (payload : List Byte)
  /-- PARK (R133): a CONTEXT packet with operation PARK. -/
  | park (tag : Byte) (slot : Fin 4)
  /-- COPY (R133). -/
  | copy (tag : Byte) (slot : Fin 4)
  /-- RESUME (R133, R135). -/
  | resume (tag : Byte) (slot : Fin 4)
  /-- DISCARD (R133). -/
  | discard (tag : Byte) (slot : Fin 4)
  /-- POINTER (R62). -/
  | pointer (tag : Byte) (payload : List Byte)
  /-- SYNC (R29). -/
  | sync (tag : Byte) (payload : List Byte)
  /-- ECHO (R28). -/
  | echo (tag : Byte) (payload : List Byte)
  /-- RESET_GESTURE (R138): a RESET packet with scope GESTURE. -/
  | resetGesture (tag : Byte)
  /-- RESET_TABLES (R95). -/
  | resetTables (tag : Byte)
  /-- RESET_SETTINGS (R30). -/
  | resetSettings (tag : Byte)
  /-- RESET_ALL (R30). -/
  | resetAll (tag : Byte)
  /-- TABLET_BYTE (R53): a character received on the tablet line. -/
  | tabletByte (b : Byte)
  /-- TABLET_FRAMING_ERROR (R52): a character whose stop bit is sampled low. -/
  | tabletFramingError
  /-- TABLET_FRAME (R54): the eight characters of a frame, in order (R179). -/
  | tabletFrame (status x2 x1 x0 y2 y1 y0 check : Byte)
  /-- TABLET_SILENCE_EXPIRY (R59): the 250 ms tablet silence timer expires. -/
  | tabletSilenceExpiry
  /-- SEARCH_PUBLISH (R113). -/
  | searchPublish
  /-- REPORT_TX_START (R169): the start of a report is tried, HOLD standing at this level. -/
  | reportTxStart (hold : Bool)
  /-- REPORT_TX_END (R170): the stop bit of the report's last byte has been sent. -/
  | reportTxEnd
  /-- TABLET_LINE_RETURN_HIGH (R52). -/
  | tabletLineReturnHigh
deriving DecidableEq, Repr

end Sys2Proof
end

