-- ==== Sys2Proof/Decode.lean ====
section
/-! DEFINITION. No row of spec/opcode_table.json carries bits, so no word spells a command: the table-word decoder
refuses every word. (The bytes of packets, records and tablet frames are decoded in Machine/Operands.lean.) -/

namespace Sys2Proof

/-- The command a table word spells: none, since the table gives no row any bits. -/
def decodeTableWord (_nbits _w : Nat) : Option Instr := none

end Sys2Proof
end

