-- ==== Sys2Proof/Config.lean ====
section
/-! DEFINITION. The figures the manual fixes (00 section 6, and the rule named at each), and the strap levels of
`State.reset`. The manual leaves no result open, so there is no free value here. -/

namespace Sys2Proof.Config

/-- Delay of the video path, in input cycles (R1). -/
def pathDelay : Nat := 2624
/-- A line length and a line count are held at this value (R5). -/
def lineMax : Nat := 4095
/-- Limits of the width and the height the lock accepts (R5). -/
def widthMin : Nat := 320
def widthMax : Nat := 2560
def heightMin : Nat := 240
def heightMax : Nat := 2048
/-- Frame-start silence before LOST, in milliseconds (R10). -/
def lockSilenceMs : Nat := 100
/-- Tablet silence before the pointer is absent, in milliseconds (R59). -/
def tabletSilenceMs : Nat := 250
/-- Lead byte of a packet (section 2.1) and of a report (R165). -/
def packetLead : Byte := 0xB6
def reportLead : Byte := 0xB9
/-- Largest payload of a packet (R14). -/
def payloadMax : Nat := 240
/-- Places of the fence list (R29) and of the report queue (R166). -/
def fenceMax : Nat := 16
def queueMax : Nat := 16
/-- Sheet coordinates run from minus to plus this value (00 section 4.1). -/
def sheetMax : Int := 8388607
/-- The INDEFINITE code (00 section 4.1). -/
def indefiniteCode : Int := -8388608
/-- Cells of a bank's directory, on one axis (R42). -/
def cellsPerAxis : Nat := 64
/-- CRC polynomial and initial value (R75). -/
def crcPoly : Word16 := 0x2D17
def crcInit : Word16 := 0xFFFF
/-- Records of one loaded glyph: a header and 32 rows (R71). -/
def glyphRecords : Nat := 33
/-- Vertices of a gesture and handles of its exclusion list (R118). -/
def vertexMax : Nat := 16
def exclusionMax : Nat := 8
/-- Primitives drawn on one line (R158). -/
def lineCapacity : Nat := 48
/-- Vendor code, part code and revision of IDENTITY (R25). -/
def vendorCode : Int := 0x0D1A
def partCode : Int := 0x7230
def revision : Int := 1

end Sys2Proof.Config
end

