-- ==== Sys2Proof/Machine/Types.lean ====
section
/-! DEFINITION. The records and enumerations of the part's state, block by block, each as the rule named at it gives it. -/

namespace Sys2Proof.Machine

/-! ## Coordinates -/

/-- The class of a coordinate, from best to worst (00 section 4.2, R32). -/
inductive CoordClass where
  | valid
  | offSheet
  | indefinite
deriving DecidableEq, Repr

/-- A held sheet coordinate: a value with its class (R32). -/
structure Coord where
  value : Int
  cls : CoordClass
deriving DecidableEq, Repr

/-- A sheet point. -/
structure Point where
  x : Coord
  y : Coord
deriving DecidableEq, Repr

/-- A sample of the mailbox (R56); `proximity` is true for IN. -/
structure Sample where
  point : Point
  proximity : Bool
  sequence : Word16
deriving DecidableEq, Repr

/-! ## Video path -/

inductive LockState where
  | search
  | confirm
  | locked
  | lost
deriving DecidableEq, Repr

/-- The three lock faults (R9). -/
inductive LockFault where
  | width
  | excess
  | short
deriving DecidableEq, Repr

/-- A timer: stopped, or running with the time it was last restarted at, in milliseconds (R10, R59; log entry 5). -/
inductive Timer where
  | stopped
  | running (ms : Nat)
deriving DecidableEq, Repr

/-- The frame measurement record (R5). -/
structure FrameRecord where
  usable : Bool
  firstLength : Nat
  uniform : Bool
  lines : Nat
deriving DecidableEq, Repr

/-- The levels sampled on one input cycle (section 1.1). -/
structure VideoIn where
  vd : Rgb
  vhs : Bool
  vvs : Bool
  vde : Bool
  vcx : Bool
deriving DecidableEq, Repr

/-- A cycle held in the delay path (R1): its input, and the VD it will drive (R2). -/
structure PathCycle where
  vd : Rgb
  vhs : Bool
  vvs : Bool
  vde : Bool
  outVd : Rgb
deriving DecidableEq, Repr

/-- The output pins OD, OHS, OVS, ODE. -/
structure VideoOut where
  vd : Rgb
  vhs : Bool
  vvs : Bool
  vde : Bool
deriving DecidableEq, Repr

/-- The state of the VPL. `run` is the length so far of the line under way, 0 between lines (R5); `awaitActive` says that
the frame's active start is still to come (R11); `path` holds the newest cycle first (R1). -/
structure Vpl where
  lock : LockState
  candidate : Option (Nat × Nat)
  width : Nat
  height : Nat
  record : FrameRecord
  run : Nat
  awaitActive : Bool
  prevVvs : Bool
  silence : Timer
  windowOpen : Bool
  path : List PathCycle
  out : VideoOut
deriving DecidableEq, Repr

/-! ## Settings -/

/-- The twelve writable groups (section 2.5, R176). -/
inductive Group where
  | view
  | tablet
  | snap
  | markers
  | cursor
  | blink
  | buttons
  | reports
  | styleCursor
  | styleMarker
  | styleRubber
  | styleGhost
deriving DecidableEq, Repr

/-- One field of a group (R19). -/
structure FieldCell where
  current : Int
  pending : Option Int
deriving DecidableEq, Repr

/-- The settings store: for each writable group its fields, in the order of R19's table, which is the order of the field
codes (R176). A set field holds its bit mask. -/
structure Settings where
  view : List FieldCell
  tablet : List FieldCell
  snap : List FieldCell
  markers : List FieldCell
  cursor : List FieldCell
  blink : List FieldCell
  buttons : List FieldCell
  reports : List FieldCell
  styleCursor : List FieldCell
  styleMarker : List FieldCell
  styleRubber : List FieldCell
  styleGhost : List FieldCell
deriving DecidableEq, Repr

/-- The receive state with the part of the packet taken so far (R14). -/
inductive Receive where
  | hunt
  | cls
  | length (cls : Byte)
  | tag (cls len : Byte)
  | payload (cls len tag : Byte) (got : List Byte)
  | check (cls len tag : Byte) (got : List Byte)
deriving DecidableEq, Repr

/-- The state of the PDS (R27, R29, R31). -/
structure Pds where
  receive : Receive
  settings : Settings
  fence : List Byte
  linkErr : Bool
  tabletErr : Bool
  reportOverrun : Bool
deriving DecidableEq, Repr

/-! ## Pointer unit -/

inductive PointerSource where
  | tablet
  | packet
deriving DecidableEq, Repr

inductive TabletRate where
  | r9600
  | r19200
  | r38400
  | r115200
deriving DecidableEq, Repr

/-- The frame receiver (R53): the bytes of a partial frame in the order received. -/
inductive FrameReceiver where
  | hunt
  | collect (bytes : List Byte)
deriving DecidableEq, Repr

/-- The state of the PTU (chapter 4). A button bit is 1 for down; `lineLow` says that the receiver waits for the line to
return high (R52). -/
structure Ptu where
  receiver : FrameReceiver
  lineLow : Bool
  buttons : BitVec 4
  silence : Timer
  sequence : Word16
  mailbox : Sample
  source : PointerSource
  rate : TabletRate
deriving DecidableEq, Repr

/-! ## Table store -/

/-- The five load targets (section 5.1). -/
inductive Target where
  | snap0
  | snap1
  | ghost
  | directions
  | glyph
deriving DecidableEq, Repr

inductive BankState where
  | empty
  | loading
  | building
  | ready
  | active
  | damaged
deriving DecidableEq, Repr

inductive Fate where
  | empty
  | damaged
deriving DecidableEq, Repr

/-- The seven snap kinds, by kind code (R67). -/
inductive SnapKind where
  | endpoint
  | midpoint
  | center
  | quadrant
  | intersection
  | node
  | insertion
deriving DecidableEq, Repr

/-- A snap entry exactly as received (R67, R177): the attribute word keeps its unassigned bits. -/
structure SnapEntry where
  x : BitVec 24
  y : BitVec 24
  attr : Word16
  handle : Word16
deriving DecidableEq, Repr

/-- One cell of the directory (R76). -/
structure DirCell where
  first : Nat
  count : Nat
deriving DecidableEq, Repr

/-- The record of one bank (R67). -/
structure Bank where
  state : BankState
  count : Nat
  shift : Nat
  originX : Int
  originY : Int
  cursor : Nat
  runningCrc : Word16
  acceptedCrc : Option Word16
  entries : List SnapEntry
  directory : List DirCell
  cellIndex : List Nat
  voidCount : Nat
  largest : Nat
  loadTag : Byte
  fate : Option Fate
deriving DecidableEq, Repr

/-- The activation mark (R80): `target` is none for the mark NONE. -/
structure Mark where
  target : Option BankId
  tag : Byte
deriving DecidableEq, Repr

/-- A running verify (section 5.7). -/
structure VerifyJob where
  bank : BankId
  next : Nat
  crc : Word16
  tag : Byte
deriving DecidableEq, Repr

inductive StageState where
  | idle
  | loading
  | staged
deriving DecidableEq, Repr

/-- A staging record (R71), over the records of its target. -/
structure Staging (α : Type) where
  state : StageState
  count : Nat
  cursor : Nat
  runningCrc : Word16
  records : List α
  firstGlyph : Nat
  loadTag : Byte
deriving DecidableEq, Repr

/-- A ghost segment: two endpoints as stored values (R91). -/
structure GhostSegment where
  x1 : BitVec 24
  y1 : BitVec 24
  x2 : BitVec 24
  y2 : BitVec 24
deriving DecidableEq, Repr

/-- A direction (R92). -/
structure Direction where
  ux : Int
  uy : Int
deriving DecidableEq, Repr

/-- A glyph record as loaded (R71, R177): a header with its hotspot, or a row with column 0 in bits 63:62. -/
inductive GlyphRecord where
  | header (hx hy : Nat)
  | row (bits : BitVec 64)
deriving DecidableEq, Repr

/-- A glyph (R93): its hotspot and its 32 rows from the top. -/
structure Glyph where
  hx : Nat
  hy : Nat
  rows : List (BitVec 64)
deriving DecidableEq, Repr

/-- The state of the TBS (R94). -/
structure Tbs where
  bank0 : Bank
  bank1 : Bank
  mark : Option Mark
  pin : Option BankId
  verify : Option VerifyJob
  interval : Nat
  ghostStage : Staging GhostSegment
  directionStage : Staging Direction
  glyphStage : Staging GlyphRecord
  ghosts : List GhostSegment
  directions : List Direction
  glyphs : List Glyph
  snapDown : Bool
deriving DecidableEq, Repr

/-! ## Gestures -/

inductive GestureKind where
  | point
  | line
  | chain
  | rect
  | circle
  | move
deriving DecidableEq, Repr

inductive GestureState where
  | idle
  | armed
  | tracking
deriving DecidableEq, Repr

/-- A gesture context (R118). -/
structure Gesture where
  kind : GestureKind
  state : GestureState
  vertices : List Point
  close : Bool
  exclusions : List Word16
  epoch : Word16
deriving DecidableEq, Repr

/-- The state of the GCU: a slot is none when EMPTY (R132). -/
structure Gcu where
  live : Gesture
  slot0 : Option Gesture
  slot1 : Option Gesture
  slot2 : Option Gesture
  slot3 : Option Gesture
deriving DecidableEq, Repr

/-! ## Search -/

inductive Source where
  | raw
  | grid
  | constrained
  | object
deriving DecidableEq, Repr

/-- The object fields of a result record (R112). -/
structure ObjectPart where
  index : Nat
  kind : SnapKind
  layer : Nat
  handle : Word16
  dist2 : Nat
  bank : BankId
deriving DecidableEq, Repr

/-- The result record (R112). -/
structure ResultRecord where
  sequence : Word16
  raw : Point
  point : Point
  source : Source
  object : Option ObjectPart
  truncated : Bool
  proximity : Bool
deriving DecidableEq, Repr

/-- The VIEW values a projection uses (R38). -/
structure View where
  originX : Int
  originY : Int
  zoom : Int
deriving DecidableEq, Repr

/-- The inputs a search takes at its start (R100). -/
structure Snapshot where
  sample : Sample
  view : View
  aperture : Int
  kindEnable : Int
  layerMask : Int
  budget : Int
  gridEnable : Int
  gridPitchX : Int
  gridPitchY : Int
  gridOriginX : Int
  gridOriginY : Int
  constraint : Int
  lengthStep : Int
  directions : List Direction
  gestureState : GestureState
  gestureKind : GestureKind
  anchor : Option Point
  exclusions : List Word16
  bank : Option BankId
deriving DecidableEq, Repr

/-- A candidate of the object phase (R108). -/
structure Candidate where
  dist2 : Nat
  kind : SnapKind
  index : Nat
  entry : SnapEntry
deriving DecidableEq, Repr

/-- The progress of the search in flight (R97). -/
structure Progress where
  cell : Nat
  position : Nat
  count : Nat
  best : Option Candidate
deriving DecidableEq, Repr

/-- The search in flight. -/
structure Flight where
  snapshot : Snapshot
  progress : Progress
deriving DecidableEq, Repr

/-- The state of the SSE (R97): SEARCHING when `flight` is present. -/
structure Sse where
  flight : Option Flight
  rerun : Bool
  published : ResultRecord
deriving DecidableEq, Repr

/-! ## Composer -/

inductive OverlayClass where
  | cursor
  | marker
  | rubber
  | ghost
deriving DecidableEq, Repr

/-- The four kinds of primitive (R145), on exact screen points. -/
inductive Shape where
  | glyph (number : Nat) (px py : Int)
  | segment (xa ya xb yb : Int)
  | circle (cx cy : Int) (r : Nat)
  | horizontal (sx sy : Int)
  | vertical (sx sy : Int)
deriving DecidableEq, Repr

structure Primitive where
  cls : OverlayClass
  shape : Shape
deriving DecidableEq, Repr

/-- A style group's values (R19). -/
structure Style where
  op : Int
  colorA : Int
  colorB : Int
  dashPeriod : Int
  dashOn : Int
  blink : Int
deriving DecidableEq, Repr

/-- The frame latch (R139, R140). -/
structure FrameLatch where
  shown : ResultRecord
  current : Bool
  gestureState : GestureState
  gestureKind : GestureKind
  vertices : List Point
  close : Bool
  view : View
  styleCursor : Style
  styleMarker : Style
  styleRubber : Style
  styleGhost : Style
  cursorGlyph : Int
  crosshair : Int
  markers : List Int
  blinkOn : Int
  phase : Nat
  width : Nat
  height : Nat
  ghosts : List GhostSegment
  glyphs : List Glyph
deriving DecidableEq, Repr

/-- The state of the OVC (R139). -/
structure Ovc where
  latch : FrameLatch
  display : List Primitive
  frameOverrun : Nat
  linesOverrun : Nat
  phase : Nat
  restart : Bool
  forcedOff : Nat
deriving DecidableEq, Repr

/-- The composer's answer for a pixel (R2, R157). -/
inductive Answer where
  | none
  | color (c : Rgb)
  | invert
deriving DecidableEq, Repr

/-! ## Reports -/

/-- The classes of packet (section 2.3). -/
inductive PacketClass where
  | set
  | read
  | loadBegin
  | loadData
  | loadEnd
  | activate
  | verify
  | gesture
  | commit
  | endGesture
  | cancel
  | context
  | pointer
  | sync
  | echo
  | reset
deriving DecidableEq, Repr

/-- The refusal causes (section 2.4). -/
inductive Cause where
  | check
  | cls
  | length
  | field
  | count
  | state
  | sequence
  | overflow
  | short
  | notReady
  | active
  | inUse
  | source
deriving DecidableEq, Repr

/-- Who asked for a gesture event (R128, R178). -/
inductive Origin where
  | button (b : Fin 4)
  | packet
  | reset
deriving DecidableEq, Repr

/-- The actions of the BUTTONS group (R19). -/
inductive Action where
  | none
  | commit
  | finish
  | cancel
  | report
deriving DecidableEq, Repr

inductive RefuseCause where
  | invalid
  | absent
  | duplicate
deriving DecidableEq, Repr

inductive DoneCause where
  | normal
  | full
deriving DecidableEq, Repr

inductive CancelCause where
  | request
  | reset
deriving DecidableEq, Repr

inductive LinkCause where
  | acquired
  | mismatch
  | silence
deriving DecidableEq, Repr

/-- The operations of a CONTEXT packet (R176). -/
inductive ContextOp where
  | park
  | copy
  | resume
  | discard
deriving DecidableEq, Repr

/-- The scopes of a RESET packet (R176). -/
inductive Scope where
  | gesture
  | tables
  | settings
  | all
deriving DecidableEq, Repr

/-- The events of a TABLE report with their further fields (R96). -/
inductive TableEvent where
  | mismatch
  | built (entries voids largest : Nat)
  | committed (records : Nat)
  | activated
  | verified
  | damaged
  | aborted
deriving DecidableEq, Repr

/-- One field of a SETTING report (R24, R178); `wide` marks the 8-byte layer_mask. -/
structure SettingField where
  value : Int
  wide : Bool
  pending : Bool
deriving DecidableEq, Repr

/-- What a report says, by kind (section 9.5, R178). -/
inductive ReportBody where
  | track (r : ResultRecord)
  | committed (origin : Origin) (epoch : Word16) (index : Nat) (shown : ResultRecord)
  | commitRefused (button : Fin 4) (cause : RefuseCause)
  | gestureDone (origin : Origin) (epoch : Word16) (kind : GestureKind) (count : Nat) (cause : DoneCause) (close : Bool)
  | cancelled (origin : Origin) (epoch : Word16) (kind : GestureKind) (count : Nat) (cause : CancelCause)
  | button (button : Fin 4) (action : Action) (shown : ResultRecord)
  | context (op : ContextOp) (slot : Fin 4) (held : Bool) (kind : GestureKind) (state : GestureState) (count : Nat)
      (slotEpoch liveEpoch : Word16)
  | setting (group : Byte) (fields : List SettingField)
  | syncDone
  | echo (bytes : List Byte)
  | error (cls : Byte) (cause : Cause) (cursor : Option Nat)
  | table (target : Option Target) (event : TableEvent)
  | link (state : LockState) (cause : LinkCause) (fault : Option LockFault) (line width height : Nat)
  | resetDone (scope : Scope)
deriving DecidableEq, Repr

/-- A queued report: its tag and payload are fixed when it is queued (R165). -/
structure Report where
  tag : Byte
  body : ReportBody
deriving DecidableEq, Repr

inductive LaneRate where
  | r115200
  | r460800
  | r921600
  | r1843200
deriving DecidableEq, Repr

/-- A report being sent (R169): `position` is the number of its bits (R164) sent before the one now on the lane. It stays
0, since no command of the table is a bit time (log entry 23). -/
structure Transmission where
  report : Report
  flags : Byte
  check : Byte
  position : Nat
deriving DecidableEq, Repr

/-- The state of the RLT (section 9.2), with the level of HOLD as last tested (log entry 13). -/
structure Rlt where
  queue : List Report
  transmission : Option Transmission
  overrun : Bool
  rate : LaneRate
  hold : Bool
deriving DecidableEq, Repr

end Sys2Proof.Machine
end

