-- ==== Sys2Proof/Machine/Arith.lean ====
section
/-! DEFINITION. Coordinates and arithmetic (chapter 3). All of it is exact integer arithmetic; `/` on `Int` rounds down
for the positive divisors used here, which is the floor of 00 section 4.4. -/

namespace Sys2Proof.Machine

/-- clamp(v, lo, hi) (00 section 4.4). -/
def clampInt (lo hi v : Int) : Int := if v < lo then lo else if hi < v then hi else v

/-! ## Classes (R32 to R35) -/

/-- The worse of two classes (R34). -/
def worseClass : CoordClass → CoordClass → CoordClass
  | .indefinite, _ => .indefinite
  | _, .indefinite => .indefinite
  | .offSheet, _ => .offSheet
  | _, .offSheet => .offSheet
  | .valid, .valid => .valid

/-- The class of a point (R34). -/
def pointClass (p : Point) : CoordClass := worseClass p.x.cls p.y.cls

/-- The point is VALID (R34). -/
def pointValid (p : Point) : Bool := pointClass p == .valid

/-- A coordinate taken from a 24-bit stored value (R32). -/
def storedCoord (v : BitVec 24) : Coord :=
  if v.toInt = Config.indefiniteCode then ⟨Config.indefiniteCode, .indefinite⟩ else ⟨v.toInt, .valid⟩

/-- A point taken from two stored values (R32). -/
def storedPoint (x y : BitVec 24) : Point := ⟨storedCoord x, storedCoord y⟩

/-- Saturation of a final value to the sheet range (R33). -/
def saturate (v : Int) : Int := clampInt (-Config.sheetMax) Config.sheetMax v

/-- One axis of a computed point: `operands` is the worst class among the axis's operands, `v` its exact value (R34). -/
def computedCoord (operands : CoordClass) (v : Int) : Coord :=
  match operands with
  | .indefinite => ⟨Config.indefiniteCode, .indefinite⟩
  | .offSheet => ⟨saturate v, .offSheet⟩
  | .valid => ⟨saturate v, if saturate v = v then .valid else .offSheet⟩

/-- Equality of sheet points (R35). -/
def samePoint (p q : Point) : Bool :=
  pointValid p && pointValid q && p.x.value == q.x.value && p.y.value == q.y.value

/-- The point with both axes INDEFINITE (R56, R116). -/
def indefinitePoint : Point :=
  ⟨⟨Config.indefiniteCode, .indefinite⟩, ⟨Config.indefiniteCode, .indefinite⟩⟩

/-! ## Calibration (R36) -/

/-- One axis of R36: count, scale and offset. -/
def calibrateAxis (count : Nat) (scale offset : Int) : Coord :=
  computedCoord .valid (offset + ((count : Int) * scale + 32768) / 65536)

/-! ## Projection (R38, R39) -/

def screenX (v : View) (x : Int) : Int := ((x - v.originX) * v.zoom + 32768) / 65536
def screenY (v : View) (y : Int) : Int := ((v.originY - y) * v.zoom + 32768) / 65536

/-- The screen position of a point: only a VALID point has one (R38). -/
def project (v : View) (p : Point) : Option (Int × Int) :=
  if pointValid p then some (screenX v p.x.value, screenY v p.y.value) else none

/-! ## Aperture, cover and cells (R40 to R43) -/

/-- d² of two screen positions (R40). -/
def dist2 (a b : Int × Int) : Int := (b.1 - a.1) * (b.1 - a.1) + (b.2 - a.2) * (b.2 - a.2)

/-- The cover radius (R41). -/
def coverRadius (r zoom : Int) : Int := ((r + 1) * 65536 + zoom - 1) / zoom

/-- The cell index on one axis (R42). -/
def cellOnAxis (shift : Nat) (origin v : Int) : Nat :=
  (clampInt 0 63 ((v - origin) / (2 ^ shift : Nat))).toNat

/-- The cell number of a stored point in a bank's directory (R42). -/
def cellNumber (shift : Nat) (ox oy x y : Int) : Nat :=
  cellOnAxis shift oy y * Config.cellsPerAxis + cellOnAxis shift ox x

/-! ## Grid (R44) -/

/-- The exact grid coordinate on one axis, before saturation. -/
def gridValue (origin pitch v : Int) : Int :=
  origin + pitch * ((2 * (v - origin) + pitch) / (2 * pitch))

/-- The grid point of a point (R44). -/
def gridPoint (ox oy px py : Int) (p : Point) : Point :=
  ⟨computedCoord p.x.cls (gridValue ox px p.x.value), computedCoord p.y.cls (gridValue oy py p.y.value)⟩

/-! ## Direction constraint (R45 to R49) -/

/-- The direction set of ORTHO (R45). -/
def orthoDirections : List Direction := [⟨16384, 0⟩, ⟨0, 16384⟩, ⟨-16384, 0⟩, ⟨0, -16384⟩]

/-- dot_k of R46. -/
def dot (vx vy : Int) (u : Direction) : Int := vx * u.ux + vy * u.uy

/-- The direction of the greatest dot_k, the lowest index of equal ones (R46). -/
def bestDirection (vx vy : Int) (first : Direction) (rest : List Direction) : Direction :=
  rest.foldl (fun best u => if dot vx vy best < dot vx vy u then u else best) first

/-- The length along the chosen direction, rounded (R47). -/
def constraintLength (dotk : Int) : Int := (dotk + 8192) / 16384

/-- The length rounded to the step, when there is one (R48). -/
def steppedLength (step len : Int) : Int :=
  if 0 < step then step * ((2 * len + step) / (2 * step)) else len

/-- The move of one axis along the direction (R49). -/
def directionMove (len u : Int) : Int := (len * u + 8192) / 16384

/-- The constrained point of R46 to R49, over a direction set given by its first entry and the rest. -/
def constrainedPoint (pointer anchor : Point) (first : Direction) (rest : List Direction) (step : Int) : Point :=
  let vx := pointer.x.value - anchor.x.value
  let vy := pointer.y.value - anchor.y.value
  if vx = 0 ∧ vy = 0 then anchor
  else
    let u := bestDirection vx vy first rest
    let len := steppedLength step (constraintLength (dot vx vy u))
    let cls := worseClass (pointClass pointer) (pointClass anchor)
    ⟨computedCoord cls (anchor.x.value + directionMove len u.ux),
     computedCoord cls (anchor.y.value + directionMove len u.uy)⟩

/-! ## Circle radius (R50) -/

/-- Binary digits of the integer square root from bit `k - 1` down, `r` being what stands so far. -/
def sqrtFrom (n : Nat) : Nat → Nat → Nat
  | 0, r => r
  | k + 1, r => if (r + 2 ^ k) * (r + 2 ^ k) ≤ n then sqrtFrom n k (r + 2 ^ k) else sqrtFrom n k r

/-- The integer square root. -/
def isqrt (n : Nat) : Nat := sqrtFrom n (n.log2 / 2 + 1) 0

/-- r_c for the squared distance D: the largest r with (2r − 1)² ≤ 4D, and 0 for D = 0 (R50). -/
def circleRadius (d : Nat) : Nat := if d = 0 then 0 else (isqrt (4 * d) + 1) / 2

/-! ## Ghost displacement (R51) -/

/-- One axis of a displaced endpoint: p + (F − v0). -/
def displaceAxis (p f v0 : Coord) : Coord :=
  computedCoord (worseClass p.cls (worseClass f.cls v0.cls)) (p.value + (f.value - v0.value))

/-- A displaced endpoint (R51). -/
def displace (p f v0 : Point) : Point := ⟨displaceAxis p.x f.x v0.x, displaceAxis p.y f.y v0.y⟩

/-! ## CRC (R75) -/

/-- One bit into the running CRC. -/
def crcBit (crc : Word16) (bit : Bool) : Word16 :=
  if (crc.msb != bit) then (crc <<< 1) ^^^ Config.crcPoly else crc <<< 1

/-- One byte into the running CRC, most significant bit first. -/
def crcByte (crc : Word16) (b : Byte) : Word16 :=
  [7, 6, 5, 4, 3, 2, 1, 0].foldl (fun c i => crcBit c (b.getLsbD i)) crc

/-- A run of bytes into the running CRC. -/
def crcBytes (crc : Word16) (bytes : List Byte) : Word16 := bytes.foldl crcByte crc

end Sys2Proof.Machine
end

