-- ==== Sys2Proof/Machine/Operands.lean ====
section
/-! DEFINITION. The operand forms of packets, records and tablet frames: field widths, codes and lengths (R175 to R177,
R179). -/

namespace Sys2Proof.Machine

/-! ## Fields of several bytes, most significant byte first (R175) -/

def word16 (b1 b0 : Byte) : Word16 := b1 ++ b0
def stored24 (b2 b1 b0 : Byte) : BitVec 24 := b2 ++ b1 ++ b0

/-- The unsigned value of a run of bytes. -/
def natOfBytes (bytes : List Byte) : Nat := bytes.foldl (fun n b => n * 256 + b.toNat) 0

/-- The bytes of the low `8 * n` bits of a value, most significant first. -/
def bytesOfNat : Nat → Nat → List Byte
  | 0, _ => []
  | n + 1, v => BitVec.ofNat 8 (v / 256 ^ n) :: bytesOfNat n v

/-- The bytes of a signed value in two's complement. -/
def bytesOfInt (n : Nat) (v : Int) : List Byte := bytesOfNat n (v % (256 ^ n : Nat)).toNat

/-- The signed value of a 4-byte settings value (R175). -/
def int32OfBytes (bytes : List Byte) : Int := (BitVec.ofNat 32 (natOfBytes bytes)).toInt

/-! ## Codes -/

/-- The class codes of R176. -/
def classCode : PacketClass → Byte
  | .set => 0x01
  | .read => 0x02
  | .loadBegin => 0x10
  | .loadData => 0x11
  | .loadEnd => 0x12
  | .activate => 0x13
  | .verify => 0x14
  | .gesture => 0x20
  | .commit => 0x21
  | .endGesture => 0x22
  | .cancel => 0x23
  | .context => 0x24
  | .pointer => 0x30
  | .sync => 0x40
  | .echo => 0x41
  | .reset => 0x42

def allClasses : List PacketClass :=
  [.set, .read, .loadBegin, .loadData, .loadEnd, .activate, .verify, .gesture, .commit, .endGesture, .cancel, .context,
   .pointer, .sync, .echo, .reset]

/-- The class a class byte names, if any (R17, R176). -/
def classOf (b : Byte) : Option PacketClass := allClasses.find? fun c => classCode c == b

/-- The target codes of R176. -/
def targetOf (b : Byte) : Option Target :=
  match b.toNat with
  | 0 => some .snap0
  | 1 => some .snap1
  | 2 => some .ghost
  | 3 => some .directions
  | 4 => some .glyph
  | _ => none

/-- The group codes of the writable groups (R176). -/
def groupOf (b : Byte) : Option Group :=
  match b.toNat with
  | 0 => some .view
  | 1 => some .tablet
  | 2 => some .snap
  | 3 => some .markers
  | 4 => some .cursor
  | 5 => some .blink
  | 6 => some .buttons
  | 7 => some .reports
  | 8 => some .styleCursor
  | 9 => some .styleMarker
  | 10 => some .styleRubber
  | 11 => some .styleGhost
  | _ => none

/-- The group codes of IDENTITY and STATUS (R176). -/
def identityCode : Byte := 12
def statusCode : Byte := 13

/-- The kind codes of a GESTURE packet (R176). -/
def gestureKindOf (b : Byte) : Option GestureKind :=
  match b.toNat with
  | 0 => some .point
  | 1 => some .line
  | 2 => some .chain
  | 3 => some .rect
  | 4 => some .circle
  | 5 => some .move
  | _ => none

/-- The operation in bits 3:2 of a CONTEXT byte (R176). -/
def contextOpOf (b : Byte) : ContextOp :=
  match (b.extractLsb' 2 2).toNat with
  | 0 => .park
  | 1 => .copy
  | 2 => .resume
  | _ => .discard

/-- The slot in bits 1:0 of a CONTEXT byte (R176). -/
def contextSlotOf (b : Byte) : Fin 4 := (b.extractLsb' 0 2).toFin

/-- The scope codes of a RESET packet (R176). -/
def scopeOf (b : Byte) : Option Scope :=
  match b.toNat with
  | 0 => some .gesture
  | 1 => some .tables
  | 2 => some .settings
  | 3 => some .all
  | _ => none

/-- The bank byte of an ACTIVATE: 2 is NONE (R176). -/
def activateTargetOf (b : Byte) : Option (Option BankId) :=
  match b.toNat with
  | 0 => some (some .snap0)
  | 1 => some (some .snap1)
  | 2 => some none
  | _ => none

/-- The snap kind of a kind code; code 7 is invalid (R67). -/
def snapKindOf (code : Nat) : Option SnapKind :=
  match code with
  | 0 => some .endpoint
  | 1 => some .midpoint
  | 2 => some .center
  | 3 => some .quadrant
  | 4 => some .intersection
  | 5 => some .node
  | 6 => some .insertion
  | _ => none

/-- The kind code of a kind, which is its rank (R67, R108). -/
def snapKindCode : SnapKind → Nat
  | .endpoint => 0
  | .midpoint => 1
  | .center => 2
  | .quadrant => 3
  | .intersection => 4
  | .node => 5
  | .insertion => 6

/-- The action of a BUTTONS field's code (R19). -/
def actionOf (code : Int) : Action :=
  if code = 1 then .commit else if code = 2 then .finish else if code = 3 then .cancel else if code = 4 then .report
  else .none

/-! ## Table records (R177) -/

/-- The record size of a target. -/
def recordSize : Target → Nat
  | .snap0 => 10
  | .snap1 => 10
  | .ghost => 12
  | .directions => 4
  | .glyph => 8

/-- `k` pieces of `n` bytes from the head of a run. -/
def pieces (n : Nat) : Nat → List Byte → List (List Byte)
  | 0, _ => []
  | k + 1, bytes => bytes.take n :: pieces n k (bytes.drop n)

/-- Byte `i` of a record. -/
def byteAt (bytes : List Byte) (i : Nat) : Byte := bytes.getD i 0

def stored24At (bytes : List Byte) (i : Nat) : BitVec 24 :=
  stored24 (byteAt bytes i) (byteAt bytes (i + 1)) (byteAt bytes (i + 2))

def word16At (bytes : List Byte) (i : Nat) : Word16 := word16 (byteAt bytes i) (byteAt bytes (i + 1))

def entryOfBytes (r : List Byte) : SnapEntry := ⟨stored24At r 0, stored24At r 3, word16At r 6, word16At r 8⟩

def bytesOfEntry (e : SnapEntry) : List Byte :=
  bytesOfNat 3 e.x.toNat ++ bytesOfNat 3 e.y.toNat ++ bytesOfNat 2 e.attr.toNat ++ bytesOfNat 2 e.handle.toNat

def ghostOfBytes (r : List Byte) : GhostSegment := ⟨stored24At r 0, stored24At r 3, stored24At r 6, stored24At r 9⟩

/-- A direction component, stored clamped (R72, R177). -/
def directionComponent (w : Word16) : Int := clampInt (-16384) 16384 w.toInt

def directionOfBytes (r : List Byte) : Direction := ⟨directionComponent (word16At r 0), directionComponent (word16At r 2)⟩

/-- A glyph record at its index: record 33j is a header, whose hotspot bytes are stored modulo 32 (R71, R93). -/
def glyphRecordOfBytes (index : Nat) (r : List Byte) : GlyphRecord :=
  if index % Config.glyphRecords = 0 then .header ((byteAt r 0).toNat % 32) ((byteAt r 1).toNat % 32)
  else .row (BitVec.ofNat 64 (natOfBytes (r.take 8)))

/-- Kind code, layer and void test of an entry (R67, R177). -/
def entryKindCode (e : SnapEntry) : Nat := (e.attr.extractLsb' 13 3).toNat
def entryLayer (e : SnapEntry) : Nat := (e.attr.extractLsb' 0 6).toNat
def entryPoint (e : SnapEntry) : Point := storedPoint e.x e.y
def entryVoid (e : SnapEntry) : Bool := entryKindCode e == 7 || !pointValid (entryPoint e)

/-! ## Lengths (R176) -/

/-- The walk over the pairs of a SET: 9 bytes for field 2 of group 2, 5 bytes for every other pair. `fuel` bounds the
number of pairs; the payload's length is enough. -/
def walkPairs (group : Byte) : Nat → List Byte → Option (List (Byte × Int))
  | _, [] => some []
  | 0, _ :: _ => none
  | fuel + 1, code :: rest =>
    let wide := group == 2 && code == 2
    let size := if wide then 8 else 4
    if rest.length < size then none
    else
      let value : Int := if wide then natOfBytes (rest.take size) else int32OfBytes (rest.take size)
      (walkPairs group fuel (rest.drop size)).map fun pairs => (code, value) :: pairs

/-- The pairs of a SET payload after its group byte; none where the walk does not end at the payload's end. -/
def setPairs (group : Byte) (rest : List Byte) : Option (List (Byte × Int)) := walkPairs group rest.length rest

/-- The payload lengths each class accepts (R176). -/
def lengthOk (c : PacketClass) (payload : List Byte) : Bool :=
  let n := payload.length
  n ≤ Config.payloadMax &&
  match c with
  | .set => match payload with
    | [] => false
    | group :: rest => (setPairs group rest).isSome
  | .read => n == 1
  | .loadBegin => match payload with
    | [] => false
    | t :: _ => match targetOf t with
      | some .snap0 => n == 10
      | some .snap1 => n == 10
      | some .ghost => n == 3
      | some .directions => n == 3
      | some .glyph => n == 4
      | none => true
  | .loadData => match payload with
    | t :: _ :: _ :: data => match targetOf t with
      | some target => data.length % recordSize target == 0
      | none => true
    | _ => false
  | .loadEnd => n == 3
  | .activate => n == 1
  | .verify => n == 0
  | .gesture => match payload with
    | _ :: flags :: rest => if flags.getLsbD 1 then 6 ≤ rest.length && rest.length % 2 == 0 else rest.length % 2 == 0
    | _ => false
  | .commit => n == 0
  | .endGesture => n == 0
  | .cancel => n == 0
  | .context => n == 1
  | .pointer => n == 8
  | .sync => n == 0
  | .echo => true
  | .reset => n == 1

/-- The handles in the tail of a GESTURE payload. -/
def handlesOfBytes : List Byte → List Word16
  | b1 :: b0 :: rest => word16 b1 b0 :: handlesOfBytes rest
  | _ => []

/-! ## Tablet frames (R54, R179) -/

/-- A 21-bit count from its three 7-bit groups. -/
def count21 (b2 b1 b0 : Byte) : Nat :=
  (b2.extractLsb' 0 7).toNat * 16384 + (b1.extractLsb' 0 7).toNat * 128 + (b0.extractLsb' 0 7).toNat

/-- Step 1 of R54: bytes 0 to 6 sum to byte 7, modulo 128. -/
def frameCheckOk (bytes : List Byte) : Bool :=
  ((bytes.take 7).foldl (fun n b => n + b.toNat) 0) % 128 == (byteAt bytes 7).toNat

def frameCountX (bytes : List Byte) : Nat := count21 (byteAt bytes 1) (byteAt bytes 2) (byteAt bytes 3)
def frameCountY (bytes : List Byte) : Nat := count21 (byteAt bytes 4) (byteAt bytes 5) (byteAt bytes 6)

/-- A frame that passes both steps of R54 is good. -/
def frameGood (bytes : List Byte) : Bool :=
  frameCheckOk bytes && frameCountX bytes ≤ 65535 && frameCountY bytes ≤ 65535

def frameProximity (bytes : List Byte) : Bool := (byteAt bytes 0).getLsbD 6
def frameButtons (bytes : List Byte) : BitVec 4 := (byteAt bytes 0).extractLsb' 0 4

end Sys2Proof.Machine
end

