-- ==== Sys2Proof/Machine/Defaults.lean ====
section
/-! DEFINITION. The field table of the settings store (R19) and the power-on contents of each block. -/

namespace Sys2Proof.Machine

/-! ## The settings table (R19, R21) -/

/-- One row of R19's table. `mask` is present for a set field: the bits that stand for members. -/
structure FieldSpec where
  lo : Int
  hi : Int
  reset : Int
  mask : Option Nat
deriving DecidableEq, Repr

/-- An integer, enumerated or off/on field. -/
def rangeField (lo hi reset : Int) : FieldSpec := ⟨lo, hi, reset, none⟩
/-- A set field: any set is in range, and at reset it holds every member. -/
def setField (bits : Nat) : FieldSpec := ⟨0, 2 ^ bits - 1, 2 ^ bits - 1, some bits⟩
/-- A sheet-range field. -/
def sheetField (reset : Int) : FieldSpec := rangeField (-Config.sheetMax) Config.sheetMax reset
def offOnField : FieldSpec := rangeField 0 1 0
/-- A MARKERS field: glyph 0 to 15, or NONE, which is coded 16. -/
def markerField (reset : Int) : FieldSpec := rangeField 0 16 reset

/-- A style group (R19): dash_on's own range is that of the widest dash_period (log entry 16). -/
def styleSpecs (op colorA dashPeriod dashOn : Int) : List FieldSpec :=
  [rangeField 0 2 op, rangeField 0 0xFFFFFF colorA, rangeField 0 0xFFFFFF 0, rangeField 0 32 dashPeriod,
   rangeField 1 32 dashOn, offOnField]

/-- The fields of each writable group, in code order (R19, R176). -/
def groupSpecs : Group → List FieldSpec
  | .view => [sheetField 0, sheetField 0, rangeField 1 1048576 65536]
  | .tablet =>
    [sheetField 65536, sheetField 65536, sheetField 0, sheetField 0, offOnField, rangeField 0 1 0]
  | .snap =>
    [rangeField 0 63 8, setField 7, setField 64, rangeField 16 4096 1024, offOnField, rangeField 1 1048576 1000,
     rangeField 1 1048576 1000, sheetField 0, sheetField 0, rangeField 0 2 0, rangeField 0 1048576 0]
  | .markers =>
    [markerField 1, markerField 2, markerField 3, markerField 5, markerField 4, markerField 7, markerField 6,
     markerField 16, markerField 16]
  | .cursor => [rangeField 0 15 0, offOnField]
  | .blink => [rangeField 2 255 32, rangeField 1 254 16]
  | .buttons => [rangeField 0 4 1, rangeField 0 4 2, rangeField 0 4 3, rangeField 0 4 4]
  | .reports => [offOnField, rangeField 0 65535 0]
  | .styleCursor => styleSpecs 1 0xFFFFFF 0 1
  | .styleMarker => styleSpecs 0 0xFFFF00 0 1
  | .styleRubber => styleSpecs 1 0xFFFFFF 0 1
  | .styleGhost => styleSpecs 0 0x808080 8 4

/-- A group at its reset values, nothing pending (R19). -/
def resetCells (g : Group) : List FieldCell := (groupSpecs g).map fun f => ⟨f.reset, none⟩

/-- The settings at reset (R31). -/
def resetSettings : Settings where
  view := resetCells .view
  tablet := resetCells .tablet
  snap := resetCells .snap
  markers := resetCells .markers
  cursor := resetCells .cursor
  blink := resetCells .blink
  buttons := resetCells .buttons
  reports := resetCells .reports
  styleCursor := resetCells .styleCursor
  styleMarker := resetCells .styleMarker
  styleRubber := resetCells .styleRubber
  styleGhost := resetCells .styleGhost

/-- The cells of a group. -/
def groupCells (t : Settings) : Group → List FieldCell
  | .view => t.view
  | .tablet => t.tablet
  | .snap => t.snap
  | .markers => t.markers
  | .cursor => t.cursor
  | .blink => t.blink
  | .buttons => t.buttons
  | .reports => t.reports
  | .styleCursor => t.styleCursor
  | .styleMarker => t.styleMarker
  | .styleRubber => t.styleRubber
  | .styleGhost => t.styleGhost

/-- The store with the cells of one group replaced. -/
def setGroupCells (t : Settings) (g : Group) (cells : List FieldCell) : Settings :=
  match g with
  | .view => { t with view := cells }
  | .tablet => { t with tablet := cells }
  | .snap => { t with snap := cells }
  | .markers => { t with markers := cells }
  | .cursor => { t with cursor := cells }
  | .blink => { t with blink := cells }
  | .buttons => { t with buttons := cells }
  | .reports => { t with reports := cells }
  | .styleCursor => { t with styleCursor := cells }
  | .styleMarker => { t with styleMarker := cells }
  | .styleRubber => { t with styleRubber := cells }
  | .styleGhost => { t with styleGhost := cells }

/-- The twelve groups, in code order (R176). -/
def allGroups : List Group :=
  [.view, .tablet, .snap, .markers, .cursor, .blink, .buttons, .reports, .styleCursor, .styleMarker, .styleRubber,
   .styleGhost]

/-- The current value of a field, by group and field code. -/
def current (t : Settings) (g : Group) (code : Nat) : Int := ((groupCells t g).getD code ⟨0, none⟩).current

/-! Named readers of current values (R19, codes of R176). -/

def viewOf (t : Settings) : View := ⟨current t .view 0, current t .view 1, current t .view 2⟩
def scaleX (t : Settings) : Int := current t .tablet 0
def scaleY (t : Settings) : Int := current t .tablet 1
def offsetX (t : Settings) : Int := current t .tablet 2
def offsetY (t : Settings) : Int := current t .tablet 3
def swapAxes (t : Settings) : Bool := current t .tablet 4 != 0
def sourceField (t : Settings) : PointerSource := if current t .tablet 5 = 0 then .tablet else .packet
def cursorGlyph (t : Settings) : Int := current t .cursor 0
def crosshair (t : Settings) : Int := current t .cursor 1
def blinkPeriod (t : Settings) : Nat := (current t .blink 0).toNat
def blinkOn (t : Settings) : Int := current t .blink 1
def buttonAction (t : Settings) (b : Fin 4) : Action := actionOf (current t .buttons b.val)
def trackOn (t : Settings) : Bool := current t .reports 0 != 0
def verifyInterval (t : Settings) : Nat := (current t .reports 1).toNat
def markerFields (t : Settings) : List Int := t.markers.map FieldCell.current
def styleOf (t : Settings) (g : Group) : Style :=
  ⟨current t g 0, current t g 1, current t g 2, current t g 3, current t g 4, current t g 5⟩

/-! ## The built-in glyphs (R93) -/

/-- Distance of two cell coordinates. -/
def cellGap (a b : Nat) : Nat := (a - b) + (b - a)

/-- Cells with code 1 of the built-in glyphs 0 to 7 (R93's table). -/
def builtinCell (g x y : Nat) : Bool :=
  let cross := (x == 15 && 11 ≤ y && y ≤ 19) || (y == 15 && 11 ≤ x && x ≤ 19)
  let square := (x == 9 || x == 21 || y == 9 || y == 21) && 9 ≤ x && x ≤ 21 && 9 ≤ y && y ≤ 21
  match g with
  | 0 => cross
  | 1 => square
  | 2 => (y == 21 && 9 ≤ x && x ≤ 21) || (9 ≤ y && y ≤ 21 && cellGap x 15 == (y - 9) / 2)
  | 3 =>
    let q := 4 * (cellGap x 15 * cellGap x 15 + cellGap y 15 * cellGap y 15)
    121 ≤ q && q < 169
  | 4 => cellGap x 15 == cellGap y 15 && cellGap x 15 ≤ 6
  | 5 => cellGap x 15 + cellGap y 15 == 6
  | 6 => square && (x + y) % 2 == 0
  | 7 => square || cross
  | _ => false

/-- One row of a built-in glyph: column 0 in bits 63:62 (R177). -/
def builtinRow (g y : Nat) : BitVec 64 :=
  BitVec.ofNat 64 ((List.range 32).foldl (fun n x => n * 4 + (if builtinCell g x y then 1 else 0)) 0)

/-- A built-in glyph: 0 to 7 have hotspot (15, 15), 8 to 15 are blank with hotspot (0, 0). -/
def builtinGlyph (g : Nat) : Glyph :=
  let hot := if g < 8 then 15 else 0
  ⟨hot, hot, (List.range 32).map (builtinRow g)⟩

/-- The built-in set. -/
def builtinGlyphs : List Glyph := (List.range 16).map builtinGlyph

/-! ## Power-on contents of the blocks -/

/-- VPL (R6, R1); the last three choices are log entry 4's. -/
def resetVpl : Vpl where
  lock := .search
  candidate := none
  width := 0
  height := 0
  record := ⟨false, 0, true, 0⟩
  run := 0
  awaitActive := false
  prevVvs := false
  silence := .running Config.lockSilenceMs
  windowOpen := false
  path := []
  out := ⟨0, false, false, false⟩

/-- PDS (R31). -/
def resetPds : Pds := ⟨.hunt, resetSettings, [], false, false, false⟩

/-- The empty sample (R56). -/
def emptySample : Sample := ⟨indefinitePoint, false, 0⟩

/-- The tablet line rate of the straps (R52). -/
def tabletRateOf (s : Straps) : TabletRate :=
  match s.trate1, s.trate0 with
  | false, false => .r9600
  | false, true => .r19200
  | true, false => .r38400
  | true, true => .r115200

/-- The return lane rate of the straps (R164). -/
def laneRateOf (s : Straps) : LaneRate :=
  match s.rrate1, s.rrate0 with
  | false, false => .r115200
  | false, true => .r460800
  | true, false => .r921600
  | true, true => .r1843200

/-- PTU (R66). -/
def resetPtu (straps : Straps) : Ptu :=
  ⟨.hunt, false, 0, .stopped, 0, emptySample, .tablet, tabletRateOf straps⟩

/-- A bank in EMPTY, with no content (R68, R94). R94 gives its counts, shift, origin, cursor, running CRC and load tag no
value: 0, and 0xFFFF for the CRC, are a DESIGN CHOICE (log entry 28). -/
def emptyBank : Bank := ⟨.empty, 0, 0, 0, 0, 0, Config.crcInit, none, [], [], [], 0, 0, 0, none⟩

/-- A staging record in IDLE (R94). R94 gives its count, cursor, running CRC, first glyph id and load tag no value: 0, and
0xFFFF for the CRC, are a DESIGN CHOICE (log entry 28). -/
def idleStaging {α : Type} : Staging α := ⟨.idle, 0, 0, Config.crcInit, [], 0, 0⟩

/-- TBS (R94). -/
def resetTbs : Tbs where
  bank0 := emptyBank
  bank1 := emptyBank
  mark := none
  pin := none
  verify := none
  interval := 0
  ghostStage := idleStaging
  directionStage := idleStaging
  glyphStage := idleStaging
  ghosts := []
  directions := []
  glyphs := builtinGlyphs
  snapDown := false

/-- The reset record of the published result (R116). -/
def resetResult : ResultRecord := ⟨0, indefinitePoint, indefinitePoint, .raw, none, false, false⟩

/-- SSE (R116). -/
def resetSse : Sse := ⟨none, false, resetResult⟩

/-- The live gesture at reset (R137). -/
def resetGestureContext : Gesture := ⟨.point, .idle, [], false, [], 0⟩

/-- GCU (R137). -/
def resetGcu : Gcu := ⟨resetGestureContext, none, none, none, none⟩

/-- The frame latch at reset (R162); its phase is log entry 18's. -/
def resetLatch : FrameLatch where
  shown := resetResult
  current := false
  gestureState := .idle
  gestureKind := .point
  vertices := []
  close := false
  view := viewOf resetSettings
  styleCursor := styleOf resetSettings .styleCursor
  styleMarker := styleOf resetSettings .styleMarker
  styleRubber := styleOf resetSettings .styleRubber
  styleGhost := styleOf resetSettings .styleGhost
  cursorGlyph := cursorGlyph resetSettings
  crosshair := crosshair resetSettings
  markers := markerFields resetSettings
  blinkOn := blinkOn resetSettings
  phase := 0
  width := 0
  height := 0
  ghosts := []
  glyphs := builtinGlyphs

/-- OVC (R162). -/
def resetOvc : Ovc := ⟨resetLatch, [], 0, 0, 0, false, 0⟩

/-- RLT (R173); the HOLD level is log entry 13's. -/
def resetRlt (straps : Straps) : Rlt := ⟨[], none, false, laneRateOf straps, false⟩

/-- The strap levels of `State.reset`: all low (DESIGN CHOICE, log entry 1). -/
def resetStraps : Straps := ⟨false, false, false, false⟩

end Sys2Proof.Machine
end

