-- ==== Sys2Proof/Machine/State.lean ====
section
/-! DEFINITION. The state of the part, the reasons a step can stop, and the state after power-on. -/

namespace Sys2Proof.Machine

/-- Faults of a step. There is none: the part has no exception, and every command has an effect the manual gives, so
nothing raises a fault. -/
inductive Fault where
deriving DecidableEq, Repr

/-- Refusals of a step. -/
inductive Refusal where
  /-- Raised by an arm of `exec` whose command has no meaning yet; no arm does. Safe: the model stops. -/
  | notModelled (mnemonic : String)
deriving DecidableEq, Repr

/-- The state: the eight blocks (00 section 3), the reset pin (R180), and the queue of waiting commands, first in, first
out. -/
structure State where
  resetAsserted : Bool
  vpl : Vpl
  pds : Pds
  ptu : Ptu
  tbs : Tbs
  sse : Sse
  gcu : Gcu
  ovc : Ovc
  rlt : Rlt
  pending : List Instr
deriving DecidableEq, Repr

/-- The state when power-on completes (R6, R31, R66, R94, R116, R137, R162, R173), the straps low, no command waiting. -/
def State.reset : State where
  resetAsserted := false
  vpl := resetVpl
  pds := resetPds
  ptu := resetPtu resetStraps
  tbs := resetTbs
  sse := resetSse
  gcu := resetGcu
  ovc := resetOvc
  rlt := resetRlt resetStraps
  pending := []

end Sys2Proof.Machine
end

