-- ==== Sys2Proof/Machine/Ops.lean ====
section
/-! DEFINITION. The shared operations over the state: block updates, offers to the report queue (R166 to R168), refusals
(R18), and the readers several blocks use. -/

namespace Sys2Proof.Machine

/-! ## Block updates -/

def State.withVpl (s : State) (v : Vpl) : State := { s with vpl := v }
def State.withPds (s : State) (p : Pds) : State := { s with pds := p }
def State.withPtu (s : State) (p : Ptu) : State := { s with ptu := p }
def State.withTbs (s : State) (t : Tbs) : State := { s with tbs := t }
def State.withSse (s : State) (e : Sse) : State := { s with sse := e }
def State.withGcu (s : State) (g : Gcu) : State := { s with gcu := g }
def State.withOvc (s : State) (o : Ovc) : State := { s with ovc := o }
def State.withRlt (s : State) (r : Rlt) : State := { s with rlt := r }
def State.withPending (s : State) (q : List Instr) : State := { s with pending := q }

/-- A command that acts only while the reset pin is not asserted: while it is, no block takes any event (R6, R31, R66,
R94, R116, R137, R173). -/
def whileRunning (f : State → State) (s : State) : Host.Outcome State Fault Refusal :=
  .next (if s.resetAsserted then s else f s)

/-- The lock machine is LOCKED. -/
def isLocked (s : State) : Bool := s.vpl.lock == .locked

/-- The settings store. -/
def settings (s : State) : Settings := s.pds.settings

/-! ## The report queue -/

def isTrack (r : Report) : Bool :=
  match r.body with
  | .track _ => true
  | _ => false

/-- The queue holds 16 reports. -/
def queueFull (s : State) : Bool := !(s.rlt.queue.length < Config.queueMax)

/-- The queue with a report appended at its end. -/
def enqueue (r : Report) (s : State) : State := s.withRlt { s.rlt with queue := s.rlt.queue ++ [r] }

/-- A dropped report sets REPORT_OVERRUN and the overrun notice (R166). -/
def noteDrop (s : State) : State :=
  (s.withRlt { s.rlt with overrun := true }).withPds { s.pds with reportOverrun := true }

/-- An ordinary report offered to the RLT (R166). -/
def offer (tag : Byte) (body : ReportBody) (s : State) : State :=
  if queueFull s then noteDrop s else enqueue ⟨tag, body⟩ s

/-- A TRACK report offered to the RLT (R167). -/
def offerTrack (r : ResultRecord) (s : State) : State :=
  if s.rlt.queue.any isTrack then
    s.withRlt { s.rlt with queue := s.rlt.queue.map fun q => if isTrack q then ⟨0, .track r⟩ else q }
  else if queueFull s then s
  else enqueue ⟨0, .track r⟩ s

/-- A place asked for a COMMITTED report: the state after a grant, or none (R168). -/
def reserve (s : State) : Option State :=
  if !queueFull s then some s
  else if s.rlt.queue.any isTrack then some (s.withRlt { s.rlt with queue := s.rlt.queue.eraseP isTrack })
  else none

/-- A packet of class code `cls` is refused with a cause and, for some causes, a load cursor (R18). -/
def refuse (tag cls : Byte) (cause : Cause) (cursor : Option Nat) (s : State) : State :=
  offer tag (.error cls cause cursor) s

/-- A packet of a known class is refused, with no cursor. -/
def refuseClass (tag : Byte) (c : PacketClass) (cause : Cause) (s : State) : State :=
  refuse tag (classCode c) cause none s

/-! ## Banks -/

def bankOf (t : Tbs) : BankId → Bank
  | .snap0 => t.bank0
  | .snap1 => t.bank1

def setBank (t : Tbs) (b : BankId) (bank : Bank) : Tbs :=
  match b with
  | .snap0 => { t with bank0 := bank }
  | .snap1 => { t with bank1 := bank }

/-- The ACTIVE bank, if any (R68). -/
def activeBank (t : Tbs) : Option BankId :=
  if t.bank0.state = .active then some .snap0 else if t.bank1.state = .active then some .snap1 else none

/-- The target code of a bank. -/
def bankTarget : BankId → Target
  | .snap0 => .snap0
  | .snap1 => .snap1

/-- A mark on a bank is removed; a mark elsewhere stays. -/
def unmark (b : BankId) (m : Option Mark) : Option Mark :=
  if m.map Mark.target = some (some b) then none else m

/-! ## Context slots -/

def slotOf (g : Gcu) (i : Fin 4) : Option Gesture :=
  match i with
  | 0 => g.slot0
  | 1 => g.slot1
  | 2 => g.slot2
  | 3 => g.slot3

def setSlot (g : Gcu) (i : Fin 4) (c : Option Gesture) : Gcu :=
  match i with
  | 0 => { g with slot0 := c }
  | 1 => { g with slot1 := c }
  | 2 => { g with slot2 := c }
  | 3 => { g with slot3 := c }

end Sys2Proof.Machine
end

