-- ==== Sys2Proof/Machine/Compose.lean ====
section
/-! DEFINITION. The overlay composer (chapter 8): the frame latch, the display list, lit pixels, the answer for a pixel,
line capacity and blink. -/

namespace Sys2Proof.Machine

/-! ## Lit pixels (R151 to R155) -/

def shapeGlyph (glyphs : List Glyph) (n : Nat) : Glyph := glyphs.getD n ⟨0, 0, []⟩

/-- The two-bit code of a cell (R93, R177). -/
def glyphCode (g : Glyph) (x y : Nat) : Nat := (((g.rows.getD y 0) >>> (62 - 2 * x)).extractLsb' 0 2).toNat

/-- A pixel with dash phase t is lit under a style (R152). -/
def dashLit (st : Style) (t : Nat) : Bool :=
  st.dashPeriod ≤ 1 || st.dashPeriod ≤ st.dashOn || (t : Int) % st.dashPeriod < st.dashOn

/-- The pixels a segment lights before dashing, with their dash phase (R151). -/
def segmentPhase (xa ya xb yb x y : Int) : Option Nat :=
  let dx := xb - xa
  let dy := yb - ya
  if dx = 0 ∧ dy = 0 then if x = xa ∧ y = ya then some 0 else none
  else if dy.natAbs ≤ dx.natAbs then
    let x0 := if xa < xb then xa else xb
    let x1 := if xa < xb then xb else xa
    let y0 := if xa < xb then ya else yb
    let y1 := if xa < xb then yb else ya
    let w := x1 - x0
    if x0 ≤ x ∧ x ≤ x1 ∧ y = y0 + (2 * (x - x0) * (y1 - y0) + w) / (2 * w) then some (x - xa).natAbs else none
  else
    let x0 := if ya < yb then xa else xb
    let x1 := if ya < yb then xb else xa
    let y0 := if ya < yb then ya else yb
    let y1 := if ya < yb then yb else ya
    let h := y1 - y0
    if y0 ≤ y ∧ y ≤ y1 ∧ x = x0 + (2 * (y - y0) * (x1 - x0) + h) / (2 * h) then some (y - ya).natAbs else none

/-- The ring of a circle (R153). -/
def circleLit (cx cy : Int) (r : Nat) (x y : Int) : Bool :=
  let q := 4 * ((x - cx) * (x - cx) + (y - cy) * (y - cy))
  (2 * (r : Int) - 1) * (2 * (r : Int) - 1) ≤ q && q < (2 * (r : Int) + 1) * (2 * (r : Int) + 1)

/-- The code a glyph placement lays on a pixel, 0 outside its grid (R154). -/
def glyphLit (g : Glyph) (px py x y : Int) : Nat :=
  let gx := x - (px - g.hx)
  let gy := y - (py - g.hy)
  if 0 ≤ gx ∧ gx ≤ 31 ∧ 0 ≤ gy ∧ gy ≤ 31 then glyphCode g gx.toNat gy.toNat else 0

/-- The style of a class as latched. -/
def latchStyle (l : FrameLatch) : OverlayClass → Style
  | .cursor => l.styleCursor
  | .marker => l.styleMarker
  | .rubber => l.styleRubber
  | .ghost => l.styleGhost

/-- The code with which a primitive lights a pixel: 0 where it does not, 1 for a lit segment, circle or crosshair line,
and the cell's code for a glyph (R151 to R157). -/
def litCode (l : FrameLatch) (p : Primitive) (x y : Int) : Nat :=
  let dashed (t : Nat) : Nat := if dashLit (latchStyle l p.cls) t then 1 else 0
  match p.shape with
  | .glyph n px py => glyphLit (shapeGlyph l.glyphs n) px py x y
  | .segment xa ya xb yb =>
    match segmentPhase xa ya xb yb x y with
    | some t => dashed t
    | none => 0
  | .circle cx cy r => if circleLit cx cy r x y then 1 else 0
  | .horizontal sx sy => if y = sy ∧ 0 ≤ x ∧ x < l.width then dashed (x - sx).natAbs else 0
  | .vertical sx sy => if x = sx ∧ 0 ≤ y ∧ y < l.height then dashed (y - sy).natAbs else 0

/-! ## Line capacity (R145, R158, R159) -/

/-- The vertical extent of a primitive includes line y (R145). -/
def onLine (l : FrameLatch) (p : Primitive) (y : Int) : Bool :=
  match p.shape with
  | .glyph n _ py =>
    let top := py - (shapeGlyph l.glyphs n).hy
    top ≤ y && y ≤ top + 31
  | .segment _ ya _ yb => min ya yb ≤ y && y ≤ max ya yb
  | .circle _ cy r => cy - r ≤ y && y ≤ cy + r
  | .horizontal _ sy => y == sy
  | .vertical _ _ => 0 ≤ y && y < l.height

/-- The primitives of a line (R158). -/
def linePrimitives (l : FrameLatch) (list : List Primitive) (y : Int) : List Primitive := list.filter fun p => onLine l p y

/-- The primitives selected for a line: the first 48 in list order (R158). -/
def selected (l : FrameLatch) (list : List Primitive) (y : Int) : List Primitive :=
  (linePrimitives l list y).take Config.lineCapacity

/-- The frame overrun count (R159). -/
def overrunCount (l : FrameLatch) (list : List Primitive) : Nat :=
  ((List.range l.height).filter fun (y : Nat) => Config.lineCapacity < (linePrimitives l list y).length).length

/-! ## The answer for a pixel (R156, R157) -/

/-- The winning primitive with the code it lights the pixel with (R156). -/
def winner (o : Ovc) (x y : Int) : Option (Primitive × Nat) :=
  let part := selected o.latch o.display y
  [OverlayClass.cursor, .marker, .rubber, .ghost].findSome? fun c =>
    (part.find? fun p => p.cls == c && litCode o.latch p x y != 0).map fun p => (p, litCode o.latch p x y)

def colorOf (v : Int) : Rgb := BitVec.ofInt 24 v

/-- The answer for a pixel of an open window (R157). -/
def answer (o : Ovc) (x y : Int) : Answer :=
  match winner o x y with
  | none => .none
  | some (p, code) =>
    let st := latchStyle o.latch p.cls
    if st.op ≠ 0 then .invert
    else if code = 3 then .invert
    else if code = 2 then .color (colorOf st.colorB)
    else .color (colorOf st.colorA)

/-! ## The display list (R142, R145 to R150) -/

/-- A class is withheld for the frame (R142). -/
def withheld (l : FrameLatch) (forced : Bool) (c : OverlayClass) : Bool :=
  let st := latchStyle l c
  st.op == 2 || (st.blink != 0 && l.blinkOn ≤ l.phase) || (c == .cursor && forced)

/-- The cursor point (R147). -/
def cursorPoint (r : ResultRecord) : Option Point :=
  if pointValid r.point then some r.point else if pointValid r.raw then some r.raw else none

/-- The primitives of the CURSOR class (R147). -/
def cursorShapes (l : FrameLatch) : List Shape :=
  if l.shown.proximity then
    match (cursorPoint l.shown).bind (project l.view) with
    | some (sx, sy) =>
      .glyph l.cursorGlyph.toNat sx sy :: (if l.crosshair ≠ 0 then [.horizontal sx sy, .vertical sx sy] else [])
    | none => []
  else []

/-- The MARKERS field a result names (R148); 16 is NONE. -/
def markerCode (l : FrameLatch) : Int :=
  match l.shown.source, l.shown.object with
  | .object, some o => l.markers.getD (snapKindCode o.kind) 16
  | .object, none => 16
  | .grid, _ => l.markers.getD 7 16
  | .constrained, _ => l.markers.getD 8 16
  | .raw, _ => 16

/-- The primitives of the MARKER class (R148). -/
def markerShapes (l : FrameLatch) : List Shape :=
  if markerCode l < 16 then
    match project l.view l.shown.point with
    | some (sx, sy) => [.glyph (markerCode l).toNat sx sy]
    | none => []
  else []

/-- A segment between two sheet points, placed when both are VALID (R146). -/
def segmentOf (v : View) (p q : Point) : List Shape :=
  match project v p, project v q with
  | some a, some b => [.segment a.1 a.2 b.1 b.2]
  | _, _ => []

/-- The segments along a vertex list, each to the next (R149). -/
def pathSegments (v : View) : List Point → List Shape
  | p :: q :: rest => segmentOf v p q ++ pathSegments v (q :: rest)
  | _ => []

/-- The box of a RECT (R149). -/
def boxOf (v : View) (p q : Point) : List Shape :=
  match project v p, project v q with
  | some a, some b =>
    [.segment a.1 a.2 b.1 a.2, .segment b.1 a.2 b.1 b.2, .segment b.1 b.2 a.1 b.2, .segment a.1 b.2 a.1 a.2]
  | _, _ => []

/-- The circle of a CIRCLE; a radius of 0 places nothing (R50, R146, R149). -/
def circleOf (v : View) (p q : Point) : List Shape :=
  match project v p, project v q with
  | some a, some b =>
    let r := circleRadius (dist2 a b).toNat
    if r = 0 then [] else [.circle a.1 a.2 r]
  | _, _ => []

/-- The primitives of the RUBBER class (R149). -/
def rubberShapes (l : FrameLatch) : List Shape :=
  if l.gestureState = .tracking then
    match l.vertices.head?, l.vertices.getLast? with
    | some v0, some last =>
      let free := l.shown.point
      match l.gestureKind with
      | .point => []
      | .line => segmentOf l.view v0 free
      | .chain =>
        pathSegments l.view l.vertices ++ segmentOf l.view last free ++
          (if l.close then segmentOf l.view free v0 else [])
      | .rect => boxOf l.view v0 free
      | .circle => circleOf l.view v0 free
      | .move => []
    | _, _ => []
  else []

/-- The primitives of the GHOST class (R150). -/
def ghostShapes (l : FrameLatch) : List Shape :=
  if l.gestureState = .tracking ∧ l.gestureKind = .move then
    match l.vertices.head? with
    | some v0 =>
      l.ghosts.flatMap fun g =>
        segmentOf l.view (displace (storedPoint g.x1 g.y1) l.shown.point v0) (displace (storedPoint g.x2 g.y2) l.shown.point v0)
    | none => []
  else []

/-- The primitives of a class, none when it is withheld (R142). -/
def classPrimitives (l : FrameLatch) (forced : Bool) (c : OverlayClass) (shapes : List Shape) : List Primitive :=
  if withheld l forced c then [] else shapes.map fun s => ⟨c, s⟩

/-- The display list of a latch (R145). -/
def displayList (l : FrameLatch) (forced : Bool) : List Primitive :=
  classPrimitives l forced .cursor (cursorShapes l) ++ classPrimitives l forced .marker (markerShapes l) ++
  classPrimitives l forced .rubber (rubberShapes l) ++ classPrimitives l forced .ghost (ghostShapes l)

/-! ## Blink, latch and lock loss -/

/-- The blink step of an active start (R143). -/
def blinkStep (s : State) : State :=
  s.withOvc (if s.ovc.restart then { s.ovc with restart := false }
    else { s.ovc with phase := (s.ovc.phase + 1) % blinkPeriod (settings s) })

/-- The blink period change notice (R143). -/
def periodNotice (s : State) : State := s.withOvc { s.ovc with phase := 0, restart := true }

/-- The refusal notice (R144). -/
def refusalNotice (s : State) : State := s.withOvc { s.ovc with forcedOff := blinkPeriod (settings s) }

/-- The values a frame latch takes, the blink step done (R140). -/
def latchOf (s : State) : FrameLatch where
  shown := s.sse.published
  current := true
  gestureState := s.gcu.live.state
  gestureKind := s.gcu.live.kind
  vertices := s.gcu.live.vertices
  close := s.gcu.live.close
  view := viewOf (settings s)
  styleCursor := styleOf (settings s) .styleCursor
  styleMarker := styleOf (settings s) .styleMarker
  styleRubber := styleOf (settings s) .styleRubber
  styleGhost := styleOf (settings s) .styleGhost
  cursorGlyph := cursorGlyph (settings s)
  crosshair := crosshair (settings s)
  markers := markerFields (settings s)
  blinkOn := blinkOn (settings s)
  phase := s.ovc.phase
  width := s.vpl.width
  height := s.vpl.height
  ghosts := s.tbs.ghosts
  glyphs := s.tbs.glyphs

/-- The frame latch at an active start while LOCKED, after the apply point and the blink step (R140 to R144, R159). -/
def takeLatch (s : State) : State :=
  let l := latchOf s
  let list := displayList l (decide (0 < s.ovc.forcedOff))
  s.withOvc { s.ovc with
    latch := l, display := list, frameOverrun := overrunCount l list, forcedOff := s.ovc.forcedOff - 1 }

/-- The composer's part in a lock loss (R160). A discarded frame overrun count is 0 (DESIGN CHOICE, log entry 31). -/
def composerLockLoss (s : State) : State :=
  s.withOvc { s.ovc with latch := { s.ovc.latch with current := false }, display := [], frameOverrun := 0 }

/-- The composer's part in an active end (R159). -/
def composerActiveEnd (s : State) : State := s.withOvc { s.ovc with linesOverrun := s.ovc.frameOverrun }

/-- The shown result a commit or a BUTTON report reads (R122). -/
def shownResult (s : State) : ResultRecord :=
  if isLocked s && s.ovc.latch.current then s.ovc.latch.shown else s.sse.published

end Sys2Proof.Machine
end

