-- ==== Sys2Proof/Machine/Flags.lean ====
section
/-! DEFINITION. The sticky flags (R27) and the other one-bit conditions the packets read: pending items (section 2.9) and
the GHOST in-use test (R71). -/

namespace Sys2Proof.Machine

/-- LINK_ERR is set (R4). -/
def setLinkErr (s : State) : State := s.withPds { s.pds with linkErr := true }

/-- TABLET_ERR is set (R53, R54). -/
def setTabletErr (s : State) : State := s.withPds { s.pds with tabletErr := true }

/-- The three sticky flags are cleared, as a queued STATUS report does (R26). -/
def clearSticky (s : State) : State :=
  s.withPds { s.pds with linkErr := false, tabletErr := false, reportOverrun := false }

/-- Some field of some group holds a pending value. -/
def settingsPending (t : Settings) : Bool := allGroups.any fun g => (groupCells t g).any fun c => c.pending.isSome

/-- Some pending item exists: a pending settings value, a mark, or staged content (section 2.9). -/
def pendingItem (s : State) : Bool :=
  settingsPending (settings s) || s.tbs.mark.isSome || s.tbs.ghostStage.state == .staged ||
  s.tbs.directionStage.state == .staged || s.tbs.glyphStage.state == .staged

/-- The live gesture is a MOVE in ARMED or TRACKING, which holds the ghost list against loading (R71, R72, R91). -/
def ghostInUse (s : State) : Bool := s.gcu.live.kind == .move && s.gcu.live.state != .idle

end Sys2Proof.Machine
end

