-- ==== Sys2Proof/Machine/Search.lean ====
section
/-! DEFINITION. The snap search engine (chapter 6): requests, snapshots, the four phases and publication. -/

namespace Sys2Proof.Machine

/-! ## Reading the bank (R104, R105) -/

/-- The bounds of the cell rectangle: cx_lo, cx_hi, cy_lo, cy_hi (R43, R104). -/
structure CellRect where
  cxLo : Nat
  cxHi : Nat
  cyLo : Nat
  cyHi : Nat
deriving DecidableEq, Repr

/-- The cell rectangle of a raw point in a bank (R43). -/
def cellRect (b : Bank) (p : Point) (ra : Int) : CellRect where
  cxLo := cellOnAxis b.shift b.originX (p.x.value - ra)
  cxHi := cellOnAxis b.shift b.originX (p.x.value + ra)
  cyLo := cellOnAxis b.shift b.originY (p.y.value - ra)
  cyHi := cellOnAxis b.shift b.originY (p.y.value + ra)

/-- lo, lo + 1, …, hi. -/
def fromTo (lo hi : Nat) : List Nat := (List.range (hi + 1 - lo)).map fun i => lo + i

/-- The cell numbers of a rectangle, in reading order (R105, steps 1 and 2). -/
def rectCells (r : CellRect) : List Nat :=
  (fromTo r.cyLo r.cyHi).flatMap fun cy => (fromTo r.cxLo r.cxHi).map fun cx => cy * Config.cellsPerAxis + cx

/-- A cell of the directory. -/
def dirCell (b : Bank) (c : Nat) : DirCell := b.directory.getD c ⟨0, 0⟩

/-- The load indices filed in a cell, in reading order (R105, step 3). -/
def cellEntries (b : Bank) (c : Nat) : List Nat := (b.cellIndex.drop (dirCell b c).first).take (dirCell b c).count

/-- The load indices of a rectangle, in reading order (R105). -/
def rectEntries (b : Bank) (r : CellRect) : List Nat := (rectCells r).flatMap (cellEntries b)

/-! ## Candidates (R107, R108) -/

/-- Member `i` of a set held as a mask. -/
def maskHas (mask : Int) (i : Nat) : Bool := mask.toNat.testBit i

/-- The entry read as a candidate under a snapshot, when it passes every test of R107. -/
def candidateOf (n : Snapshot) (pointer : Int × Int) (index : Nat) (e : SnapEntry) : Option Candidate :=
  match snapKindOf (entryKindCode e), project n.view (entryPoint e) with
  | some kind, some pos =>
    if maskHas n.kindEnable (entryKindCode e) && maskHas n.layerMask (entryLayer e) && !n.exclusions.contains e.handle &&
        dist2 pointer pos ≤ n.aperture * n.aperture
    then some ⟨(dist2 pointer pos).toNat, kind, index, e⟩
    else none
  | _, _ => none

/-- The first candidate is better than the second (R108): d², then rank, then load index. -/
def betterThan (a b : Candidate) : Bool :=
  a.dist2 < b.dist2 ||
  (a.dist2 == b.dist2 &&
    (snapKindCode a.kind < snapKindCode b.kind || (a.kind == b.kind && a.index < b.index)))

/-- The best candidate after one more. -/
def keepBetter (best : Option Candidate) (c : Option Candidate) : Option Candidate :=
  match best, c with
  | some b, some c => if betterThan c b then some c else some b
  | none, c => c
  | b, none => b

/-- Reading the entries still unread, against the budget (R106). -/
def readEntries (b : Bank) (n : Snapshot) (pointer : Int × Int) :
    List Nat → Nat → Option Candidate → Option Candidate × Bool
  | [], _, best => (best, false)
  | i :: rest, count, best =>
    if (count : Int) < n.budget then
      readEntries b n pointer rest (count + 1)
        (keepBetter best ((b.entries[i]?).bind fun e => candidateOf n pointer i e))
    else (best, true)

/-! ## The phases (R102) -/

/-- Phase 1 yields: the pointer is absent or its point is not VALID (R103). -/
def rawYields (n : Snapshot) : Bool := !n.sample.proximity || !pointValid n.sample.point

/-- The bank the object phase reads, when the phase runs (R104). -/
def objectBank (t : Tbs) (n : Snapshot) : Option (BankId × Bank) :=
  if rawYields n || n.aperture ≤ 0 then none else n.bank.map fun b => (b, bankOf t b)

/-- The rectangle of the object phase (R104). -/
def objectRect (b : Bank) (n : Snapshot) : CellRect :=
  cellRect b n.sample.point (coverRadius n.aperture n.view.zoom)

/-- The object phase: the best candidate and TRUNCATED (R104 to R108), going on from the progress held. -/
def objectPhase (t : Tbs) (n : Snapshot) (p : Progress) : Option (BankId × Candidate) × Bool :=
  match objectBank t n, project n.view n.sample.point with
  | some (id, b), some pointer =>
    let out := readEntries b n pointer ((rectEntries b (objectRect b n)).drop p.count) p.count p.best
    (out.1.map fun c => (id, c), out.2)
  | _, _ => (none, false)

/-- The direction set of a snapshot (R45). -/
def directionSet (n : Snapshot) : List Direction :=
  if n.constraint = 1 then orthoDirections else if n.constraint = 2 then n.directions else []

/-- The constrained point, when the constraint applies (R109, R110). -/
def constraintPhase (n : Snapshot) : Option Point :=
  if n.gestureState = .tracking ∧ (n.gestureKind = .line ∨ n.gestureKind = .chain ∨ n.gestureKind = .move) then
    match directionSet n, n.anchor with
    | first :: rest, some anchor => some (constrainedPoint n.sample.point anchor first rest n.lengthStep)
    | _, _ => none
  else none

/-- The object fields of a result (R112). -/
def objectPart (bank : BankId) (c : Candidate) : ObjectPart :=
  ⟨c.index, c.kind, entryLayer c.entry, c.entry.handle, c.dist2, bank⟩

/-- The result record of a search (R102, R112). -/
def searchResult (t : Tbs) (f : Flight) : ResultRecord :=
  let n := f.snapshot
  let make (p : Point) (src : Source) (o : Option ObjectPart) (truncated : Bool) : ResultRecord :=
    ⟨n.sample.sequence, n.sample.point, p, src, o, truncated, n.sample.proximity⟩
  if rawYields n then make n.sample.point .raw none false
  else
    match objectPhase t n f.progress with
    | (some (bank, c), truncated) => make (entryPoint c.entry) .object (some (objectPart bank c)) truncated
    | (none, truncated) =>
      match constraintPhase n with
      | some p => make p .constrained none truncated
      | none =>
        if n.gridEnable ≠ 0 then
          make (gridPoint n.gridOriginX n.gridOriginY n.gridPitchX n.gridPitchY n.sample.point) .grid none truncated
        else make n.sample.point .raw none truncated

/-! ## Requests and starts (R99, R100) -/

/-- The snapshot a search takes at its start (R100). -/
def takeSnapshot (s : State) : Snapshot where
  sample := s.ptu.mailbox
  view := viewOf (settings s)
  aperture := current (settings s) .snap 0
  kindEnable := current (settings s) .snap 1
  layerMask := current (settings s) .snap 2
  budget := current (settings s) .snap 3
  gridEnable := current (settings s) .snap 4
  gridPitchX := current (settings s) .snap 5
  gridPitchY := current (settings s) .snap 6
  gridOriginX := current (settings s) .snap 7
  gridOriginY := current (settings s) .snap 8
  constraint := current (settings s) .snap 9
  lengthStep := current (settings s) .snap 10
  directions := s.tbs.directions
  gestureState := s.gcu.live.state
  gestureKind := s.gcu.live.kind
  anchor := s.gcu.live.vertices.getLast?
  exclusions := s.gcu.live.exclusions
  bank := activeBank s.tbs

/-- The progress a search starts from: its first cell, nothing read (R97, R104). Where the object phase does not run, R97
gives no cell and no position, and they are 0 (DESIGN CHOICE, log entry 30). -/
def firstProgress (t : Tbs) (n : Snapshot) : Progress :=
  match objectBank t n with
  | some (_, b) =>
    let r := objectRect b n
    let c := r.cyLo * Config.cellsPerAxis + r.cxLo
    ⟨c, (dirCell b c).first, 0, none⟩
  | none => ⟨0, 0, 0, none⟩

/-- A search starts: it takes its snapshot and pins the ACTIVE bank (R83, R99, R100). -/
def startSearch (s : State) : State :=
  let n := takeSnapshot s
  (s.withSse { s.sse with flight := some ⟨n, firstProgress s.tbs n⟩, rerun := false }).withTbs { s.tbs with pin := n.bank }

/-- A search request (R99). -/
def searchRequest (s : State) : State :=
  match s.sse.flight with
  | none => startSearch s
  | some _ => s.withSse { s.sse with rerun := true }

/-- A search request, when one was raised in the course of the event (R98). -/
def requestIf (wanted : Bool) (s : State) : State := if wanted then searchRequest s else s

/-! ## Publication (R113) -/

/-- A bank whose pin is released takes the state of its fate (R84). -/
def meetFate (b : Bank) : Bank :=
  match b.fate with
  | none => b
  | some .empty => emptyBank
  | some .damaged => { b with state := .damaged, fate := none }

/-- The pin is released (R83, R84). -/
def releasePin (t : Tbs) : Tbs :=
  match t.pin with
  | none => t
  | some b => { setBank t b (meetFate (bankOf t b)) with pin := none }

/-- The rerun at a publication, or the return to IDLE (R113, step 4). -/
def rerunOrIdle (rerun : Bool) (s : State) : State :=
  if rerun then startSearch s else s.withSse { s.sse with flight := none, rerun := false }

/-- A search publishes (R113). With no search in flight nothing happens (log entry 6). -/
def publish (s : State) : State :=
  match s.sse.flight with
  | none => s
  | some f =>
    let r := searchResult s.tbs f
    let s1 := (s.withSse { s.sse with published := r }).withTbs (releasePin s.tbs)
    let s2 := if trackOn (settings s1) then offerTrack r s1 else s1
    rerunOrIdle s.sse.rerun s2

/-- SEARCH_PUBLISH. -/
def execSearchPublish (s : State) : Host.Outcome State Fault Refusal := whileRunning publish s

end Sys2Proof.Machine
end

