-- ==== Sys2Proof/Machine/Settings.lean ====
section
/-! DEFINITION. The settings store (sections 2.5 to 2.9): clamping, SET, pending values, READ, ECHO and SYNC. The notices
of R23 are given in Machine/Apply.lean. -/

namespace Sys2Proof.Machine

/-! ## Clamping (R21) -/

/-- A placed value brought into its field's range; a set field keeps the bits that stand for members (log entry 19). -/
def clampField (f : FieldSpec) (v : Int) : Int :=
  match f.mask with
  | some bits => v % (2 ^ bits : Nat)
  | none => clampInt f.lo f.hi v

/-- The working copy of a group (R20). -/
def workingCopy (cells : List FieldCell) : List Int := cells.map fun c => c.pending.getD c.current

/-- The pairs placed in list order (R20). -/
def placePairs (work : List Int) (pairs : List (Byte × Int)) : List Int :=
  pairs.foldl (fun w p => w.set p.1.toNat p.2) work

/-- The field codes a packet places. -/
def placedCodes (pairs : List (Byte × Int)) : List Nat := pairs.map fun p => p.1.toNat

/-- First pass (R21): each placed field is brought into its own range. -/
def firstPass (specs : List FieldSpec) (placed : List Nat) (work : List Int) : List Int :=
  work.mapIdx fun i v =>
    if placed.contains i then
      match specs[i]? with
      | some f => clampField f v
      | none => v
    else v

/-- The controlling and the dependent field of a group, and the dependent field's upper bound (R21). -/
def dependence (g : Group) : Option (Nat × Nat) :=
  match g with
  | .blink => some (0, 1)
  | .styleCursor => some (3, 4)
  | .styleMarker => some (3, 4)
  | .styleRubber => some (3, 4)
  | .styleGhost => some (3, 4)
  | _ => none

/-- The greatest value of the dependent field under its controlling value (R19, R21). -/
def dependentMax (g : Group) (control : Int) : Int := if g = .blink then control - 1 else max control 1

/-- Second pass (R21): a dependent field is clamped when either field of its pair was placed. -/
def secondPass (g : Group) (placed : List Nat) (work : List Int) : List Int :=
  match dependence g with
  | none => work
  | some (c, d) =>
    if placed.contains c || placed.contains d then
      work.set d (clampInt 1 (dependentMax g (work.getD c 0)) (work.getD d 0))
    else work

/-- The working copy after both passes. -/
def clampedCopy (g : Group) (cells : List FieldCell) (pairs : List (Byte × Int)) : List Int :=
  secondPass g (placedCodes pairs)
    (firstPass (groupSpecs g) (placedCodes pairs) (placePairs (workingCopy cells) pairs))

/-- Field `i` is written: it was placed, or the clamping changed it (R20, R21). -/
def isWritten (g : Group) (cells : List FieldCell) (pairs : List (Byte × Int)) (i : Nat) : Bool :=
  (placedCodes pairs).contains i || (clampedCopy g cells pairs)[i]? != (workingCopy cells)[i]?

/-- One field after a SET (R20). -/
def writeCell (locked : Bool) (v : Int) (c : FieldCell) : FieldCell :=
  if locked then { c with pending := some v } else ⟨v, none⟩

/-- The group after a SET (R20). -/
def writeGroup (g : Group) (locked : Bool) (pairs : List (Byte × Int)) (cells : List FieldCell) : List FieldCell :=
  cells.mapIdx fun i c =>
    if isWritten g cells pairs i then writeCell locked ((clampedCopy g cells pairs).getD i 0) c else c

/-- Every pair names a field the group has (R20). -/
def fieldsKnown (g : Group) (pairs : List (Byte × Int)) : Bool :=
  pairs.all fun p => p.1.toNat < (groupSpecs g).length

/-! ## Values becoming current (R22, R23) -/

/-- The pending values of a cell become current (R22). -/
def applyCell (c : FieldCell) : FieldCell := ⟨c.pending.getD c.current, none⟩

/-- Every pending value becomes current (R22). -/
def applySettings (t : Settings) : Settings :=
  allGroups.foldl (fun t g => setGroupCells t g ((groupCells t g).map applyCell)) t

/-- Which notices of R23 an occasion gives. -/
structure Notices where
  search : Bool
  source : Bool
  period : Bool
  interval : Bool
deriving DecidableEq, Repr

/-- Field `code` of a group holds a pending value. -/
def fieldPending (t : Settings) (g : Group) (code : Nat) : Bool :=
  ((groupCells t g).getD code ⟨0, none⟩).pending.isSome

def groupPending (t : Settings) (g : Group) : Bool := (groupCells t g).any fun c => c.pending.isSome

/-- The notices of an apply point: those of the values that were pending (R22, R23). -/
def noticesOfPending (t : Settings) : Notices where
  search := groupPending t .view || groupPending t .tablet || groupPending t .snap
  source := fieldPending t .tablet 5
  period := fieldPending t .blink 0
  interval := fieldPending t .reports 1

/-- The notices of a SET taken while not LOCKED (R23): those of the fields it writes. -/
def noticesOfSet (g : Group) (cells : List FieldCell) (pairs : List (Byte × Int)) : Notices where
  search := (g == .view || g == .tablet || g == .snap) && (List.range cells.length).any (isWritten g cells pairs)
  source := g == .tablet && isWritten g cells pairs 5
  period := g == .blink && isWritten g cells pairs 0
  interval := g == .reports && isWritten g cells pairs 1

/-- The notices of a RESET's settings step: all of them (R30). -/
def allNotices : Notices := ⟨true, true, true, true⟩

/-! ## READ (R24 to R26) -/

/-- The fields of a writable group as reported (R24). -/
def settingFields (t : Settings) (g : Group) : List SettingField :=
  (groupCells t g).mapIdx fun i c => ⟨c.current, g == .snap && i == 2, c.pending.isSome⟩

/-- A field of IDENTITY or STATUS: its flag byte is 0 (R178). -/
def plainField (v : Int) : SettingField := ⟨v, false, false⟩

def lockCode : LockState → Nat
  | .search => 0
  | .confirm => 1
  | .locked => 2
  | .lost => 3

def bankStateCode : BankState → Nat
  | .empty => 0
  | .loading => 1
  | .building => 2
  | .ready => 3
  | .active => 4
  | .damaged => 5

/-- 0, 1, or 2 for NONE. -/
def bankCode : Option BankId → Nat
  | some .snap0 => 0
  | some .snap1 => 1
  | none => 2

/-- pending_activation: 0, 1, 2 for NONE, 3 for NONE_MARKED (R26, R80). -/
def markCode : Option Mark → Nat
  | none => 2
  | some m => match m.target with
    | some .snap0 => 0
    | some .snap1 => 1
    | none => 3

def gestureStateCode : GestureState → Nat
  | .idle => 0
  | .armed => 1
  | .tracking => 2

def gestureKindCode : GestureKind → Nat
  | .point => 0
  | .line => 1
  | .chain => 2
  | .rect => 3
  | .circle => 4
  | .move => 5

def boolCode (b : Bool) : Nat := if b then 1 else 0

/-- The fields of STATUS, in the order of R26's table (R178). -/
def statusValues (s : State) : List Nat :=
  [lockCode s.vpl.lock, s.vpl.width, s.vpl.height, bankStateCode s.tbs.bank0.state, bankStateCode s.tbs.bank1.state,
   bankCode (activeBank s.tbs), markCode s.tbs.mark, boolCode s.tbs.verify.isSome, gestureStateCode s.gcu.live.state,
   gestureKindCode s.gcu.live.kind, boolCode s.gcu.slot0.isSome, boolCode s.gcu.slot1.isSome,
   boolCode s.gcu.slot2.isSome, boolCode s.gcu.slot3.isSome, boolCode s.sse.flight.isSome, s.ovc.linesOverrun,
   boolCode s.tbs.snapDown, boolCode s.pds.linkErr, boolCode s.pds.tabletErr, boolCode s.pds.reportOverrun]

/-- A READ of STATUS (R26): when its report is queued, the sticky flags are cleared. -/
def readStatus (tag : Byte) (s : State) : State :=
  let body := ReportBody.setting statusCode ((statusValues s).map fun v => plainField v)
  if queueFull s then noteDrop s else clearSticky (enqueue ⟨tag, body⟩ s)

/-- A READ of IDENTITY (R25). -/
def readIdentity (tag : Byte) (s : State) : State :=
  offer tag (.setting identityCode [plainField Config.vendorCode, plainField Config.partCode, plainField Config.revision]) s

/-- A READ of a group byte (R24). -/
def readGroup (tag group : Byte) (s : State) : State :=
  match groupOf group with
  | some g => offer tag (.setting group (settingFields (settings s) g)) s
  | none =>
    if group = identityCode then readIdentity tag s
    else if group = statusCode then readStatus tag s
    else refuseClass tag .read .field s

/-! ## ECHO and SYNC (R28, R29) -/

/-- ECHO (R28). -/
def takeEcho (tag : Byte) (payload : List Byte) (s : State) : State :=
  offer tag (.echo (payload.map fun b => ~~~b)) s

/-- SYNC (R29). -/
def takeSync (tag : Byte) (s : State) : State :=
  if pendingItem s && isLocked s then
    if s.pds.fence.length < Config.fenceMax then s.withPds { s.pds with fence := s.pds.fence ++ [tag] }
    else refuseClass tag .sync .inUse s
  else offer tag .syncDone s

/-- A SYNC_DONE is offered for every waiting tag, oldest first, and the list is emptied (R29). -/
def completeFence (s : State) : State :=
  let s1 := s.pds.fence.foldl (fun s tag => offer tag .syncDone s) s
  s1.withPds { s1.pds with fence := [] }

end Sys2Proof.Machine
end

