-- ==== Sys2Proof/Machine/Formats.lean ====
section
/-! DEFINITION. The bytes of reports on the return lane (R165, R178). -/

namespace Sys2Proof.Machine

def byteOf (n : Nat) : Byte := BitVec.ofNat 8 n

/-- The report kind codes (R178). -/
def kindByte : ReportBody → Byte
  | .track _ => 0x81
  | .committed _ _ _ _ => 0x82
  | .commitRefused _ _ => 0x83
  | .gestureDone _ _ _ _ _ _ => 0x84
  | .cancelled _ _ _ _ _ => 0x85
  | .button _ _ _ => 0x86
  | .context _ _ _ _ _ _ _ _ => 0x87
  | .setting _ _ => 0x88
  | .syncDone => 0x89
  | .echo _ => 0x8A
  | .error _ _ _ => 0x8B
  | .table _ _ => 0x8C
  | .link _ _ _ _ _ _ => 0x8D
  | .resetDone _ => 0x8E

def classBits : CoordClass → Nat
  | .valid => 0
  | .offSheet => 1
  | .indefinite => 2

/-- A point block (R175). -/
def pointBytes (p : Point) : List Byte :=
  bytesOfInt 3 p.x.value ++ bytesOfInt 3 p.y.value ++ [byteOf (classBits p.x.cls + 4 * classBits p.y.cls)]

def sourceCode : Source → Nat
  | .raw => 0
  | .grid => 1
  | .constrained => 2
  | .object => 3

/-- The status byte (R178). -/
def statusByte (r : ResultRecord) : Byte :=
  byteOf (sourceCode r.source + 4 * boolCode r.truncated + 8 * boolCode r.proximity)

/-- The object part (R178). -/
def objectBytes (r : ResultRecord) : List Byte :=
  match r.object with
  | none => []
  | some o =>
    bytesOfNat 2 o.index ++ [byteOf (snapKindCode o.kind), byteOf o.layer] ++ bytesOfNat 2 o.handle.toNat ++
      bytesOfNat 2 o.dist2 ++ [byteOf (bankCode (some o.bank))]

/-- The result block (R178). -/
def resultBytes (r : ResultRecord) : List Byte :=
  bytesOfNat 2 r.sequence.toNat ++ pointBytes r.raw ++ pointBytes r.point ++ [statusByte r] ++ objectBytes r

def originByte : Origin → Byte
  | .button b => byteOf b.val
  | .packet => 4
  | .reset => 5

def actionCode : Action → Nat
  | .none => 0
  | .commit => 1
  | .finish => 2
  | .cancel => 3
  | .report => 4

def refuseCode : RefuseCause → Nat
  | .invalid => 0
  | .absent => 1
  | .duplicate => 2

def doneCode : DoneCause → Nat
  | .normal => 0
  | .full => 1

def cancelCode : CancelCause → Nat
  | .request => 0
  | .reset => 1

def contextOpCode : ContextOp → Nat
  | .park => 0
  | .copy => 1
  | .resume => 2
  | .discard => 3

/-- CHECK 0 to SOURCE 12, in the order of section 2.4 (R178). -/
def causeCode : Cause → Nat
  | .check => 0
  | .cls => 1
  | .length => 2
  | .field => 3
  | .count => 4
  | .state => 5
  | .sequence => 6
  | .overflow => 7
  | .short => 8
  | .notReady => 9
  | .active => 10
  | .inUse => 11
  | .source => 12

/-- The target codes, with 5 for NONE (R178). -/
def targetCode : Option Target → Nat
  | some .snap0 => 0
  | some .snap1 => 1
  | some .ghost => 2
  | some .directions => 3
  | some .glyph => 4
  | none => 5

/-- The event byte of a TABLE report and its further fields (R178). -/
def tableEventBytes : TableEvent → List Byte
  | .mismatch => [0]
  | .built n v l => 1 :: (bytesOfNat 2 n ++ bytesOfNat 2 v ++ bytesOfNat 2 l)
  | .committed n => 2 :: bytesOfNat 2 n
  | .activated => [3]
  | .verified => [4]
  | .damaged => [5]
  | .aborted => [6]

def linkCauseCode : LinkCause → Nat
  | .acquired => 0
  | .mismatch => 1
  | .silence => 2

def lockFaultCode : Option LockFault → Nat
  | none => 0
  | some .width => 1
  | some .excess => 2
  | some .short => 3

def scopeCode : Scope → Nat
  | .gesture => 0
  | .tables => 1
  | .settings => 2
  | .all => 3

/-- One field of a SETTING report: its value and its flag byte (R178). -/
def settingBytes (f : SettingField) : List Byte :=
  bytesOfInt (if f.wide then 8 else 4) f.value ++ [byteOf (boolCode f.pending)]

/-- The payload of a report, by kind (R178). -/
def payloadBytes : ReportBody → List Byte
  | .track r => resultBytes r
  | .committed origin epoch index r =>
    originByte origin :: (bytesOfNat 2 epoch.toNat ++ [byteOf index] ++ bytesOfNat 2 r.sequence.toNat ++
      pointBytes r.point ++ [statusByte r] ++ objectBytes r)
  | .commitRefused b cause => [byteOf b.val, byteOf (refuseCode cause)]
  | .gestureDone origin epoch kind count cause close =>
    originByte origin :: (bytesOfNat 2 epoch.toNat ++
      [byteOf (gestureKindCode kind), byteOf count, byteOf (doneCode cause), byteOf (boolCode close)])
  | .cancelled origin epoch kind count cause =>
    originByte origin :: (bytesOfNat 2 epoch.toNat ++
      [byteOf (gestureKindCode kind), byteOf count, byteOf (cancelCode cause)])
  | .button b action r => [byteOf b.val, byteOf (actionCode action)] ++ resultBytes r
  | .context op slot held kind state count slotEpoch liveEpoch =>
    [byteOf (4 * contextOpCode op + slot.val), byteOf (boolCode held), byteOf (gestureKindCode kind),
     byteOf (gestureStateCode state), byteOf count] ++ bytesOfNat 2 slotEpoch.toNat ++ bytesOfNat 2 liveEpoch.toNat
  | .setting group fields => group :: fields.flatMap settingBytes
  | .syncDone => []
  | .echo bytes => bytes
  | .error cls cause cursor =>
    [cls, byteOf (causeCode cause)] ++ (match cursor with
      | some n => bytesOfNat 2 n
      | none => [])
  | .table target event => byteOf (targetCode target) :: tableEventBytes event
  | .link state cause fault line w h =>
    [byteOf (lockCode state), byteOf (linkCauseCode cause), byteOf (lockFaultCode fault)] ++ bytesOfNat 2 line ++
      bytesOfNat 2 w ++ bytesOfNat 2 h
  | .resetDone scope => [byteOf (scopeCode scope)]

/-- NO_TAG is set on an ERROR with cause CHECK (R165). -/
def noTag : ReportBody → Bool
  | .error _ .check _ => true
  | _ => false

/-- The flags byte formed when a transmission begins (R165, R169). -/
def flagsByte (overrun : Bool) (b : ReportBody) : Byte := byteOf (boolCode overrun + 2 * boolCode (noTag b))

/-- Kind, length, tag, flags and payload (R165). -/
def checkedBytes (r : Report) (flags : Byte) : List Byte :=
  [kindByte r.body, byteOf (payloadBytes r.body).length, r.tag, flags] ++ payloadBytes r.body

/-- The check byte: all of it sums to 0 modulo 256 (R165). -/
def checkByte (r : Report) (flags : Byte) : Byte := 0 - (checkedBytes r flags).foldl (· + ·) 0

/-- The bytes a transmission puts on the lane (R165). -/
def laneBytes (t : Transmission) : List Byte :=
  Config.reportLead :: (checkedBytes t.report t.flags ++ [t.check])

end Sys2Proof.Machine
end

