-- ==== Sys2Proof/Machine/Lane.lean ====
section
/-! DEFINITION. Transmission on the return lane (section 9.3). -/

namespace Sys2Proof.Machine

/-! ## Characters and the lane level (R164) -/

/-- The bits of one character in the order sent, `true` for high: a start bit, eight data bits least significant first, a
stop bit, no parity (R164). -/
def characterBits (b : Byte) : List Bool := false :: ((List.range 8).map fun i => b.getLsbD i) ++ [true]

/-- The bits of a transmission in the order sent (R164, R165). -/
def laneBits (t : Transmission) : List Bool := (laneBytes t).flatMap characterBits

/-- The level of the lane, `true` for high: that of the bit being sent, and high when no report is sent (R164, R173). -/
def laneLevel (l : Rlt) : Bool :=
  match l.transmission with
  | none => true
  | some t => (laneBits t).getD t.position true

/-! ## Transmission -/

/-- The transmission of a report begins with its lead byte's start bit (R169, R171). -/
def beginTransmission (r : Report) (rest : List Report) (l : Rlt) : Rlt :=
  let flags := flagsByte l.overrun r.body
  { l with queue := rest, transmission := some ⟨r, flags, checkByte r flags, 0⟩, overrun := false }

/-- The transmitter tries to begin a report with HOLD at this level (R169). -/
def tryTransmit (hold : Bool) (l : Rlt) : Rlt :=
  match l.transmission, l.queue, hold with
  | none, r :: rest, false => beginTransmission r rest { l with hold := hold }
  | _, _, _ => { l with hold := hold }

/-- REPORT_TX_START (R169). -/
def execReportTxStart (hold : Bool) (s : State) : Host.Outcome State Fault Refusal :=
  whileRunning (fun s => s.withRlt (tryTransmit hold s.rlt)) s

/-- REPORT_TX_END (R170): the transmission becomes idle. -/
def execReportTxEnd (s : State) : Host.Outcome State Fault Refusal :=
  whileRunning (fun s => s.withRlt { s.rlt with transmission := none }) s

end Sys2Proof.Machine
end

