-- ==== Sys2Proof/Machine/Gesture.lean ====
section
/-! DEFINITION. The gesture controller (chapter 7): GESTURE, commits, END, CANCEL, button actions, context slots. -/

namespace Sys2Proof.Machine

/-- The live gesture replaced, the epoch advanced, as one change (R120); the search request follows the event's reports. -/
def changeLive (g : Gesture) (s : State) : State :=
  s.withGcu { s.gcu with live := { g with epoch := s.gcu.live.epoch + 1 } }

/-- A gesture as it stands in IDLE (R118): the kind is kept. -/
def idleGesture (g : Gesture) : Gesture :=
  { g with state := .idle, vertices := [], close := false, exclusions := [] }

/-- The tag of a report answering this origin: the packet's, or 0 for a button (R128, R130). -/
def originTag (o : Origin) (tag : Byte) : Byte :=
  match o with
  | .button _ => 0
  | _ => tag

/-! ## GESTURE (R121) -/

/-- An accepted GESTURE. -/
def beginGesture (kind : GestureKind) (close : Bool) (anchor : Option Point) (handles : List Word16) (s : State) : State :=
  searchRequest (changeLive
    ⟨kind, if anchor.isSome then .tracking else .armed, anchor.toList, close && kind == .chain, handles, 0⟩ s)

/-- The four tests of R121, in order, and the acceptance. -/
def takeGestureFields (tag : Byte) (kindCode : Byte) (close : Bool) (anchor : Option Point) (handles : List Word16)
    (s : State) : State :=
  if Config.exclusionMax < handles.length then refuseClass tag .gesture .length s
  else
    match gestureKindOf kindCode with
    | none => refuseClass tag .gesture .state s
    | some kind =>
      if s.gcu.live.state ≠ .idle then refuseClass tag .gesture .state s
      else if anchor.any (fun a => !pointValid a) || (anchor.isSome && kind == .point) then
        refuseClass tag .gesture .state s
      else beginGesture kind close anchor handles s

/-- A GESTURE packet of an allowed length: kind, flags, the anchor when bit 1 is set, then handles (R176). -/
def takeGesture (tag : Byte) (payload : List Byte) (s : State) : State :=
  let rest := payload.drop 2
  if (byteAt payload 1).getLsbD 1 then
    takeGestureFields tag (byteAt payload 0) ((byteAt payload 1).getLsbD 0)
      (some (storedPoint (stored24At rest 0) (stored24At rest 3))) (handlesOfBytes (rest.drop 6)) s
  else
    takeGestureFields tag (byteAt payload 0) ((byteAt payload 1).getLsbD 0) none (handlesOfBytes rest) s

/-! ## Commits (R122 to R128) -/

/-- The first of R124's tests 1 to 3 that fails. -/
def commitFault (g : Gesture) (r : ResultRecord) : Option RefuseCause :=
  if !pointValid r.point then some .invalid
  else if !r.proximity then some .absent
  else if g.state = .tracking ∧ (g.vertices.getLast?.any fun v => samePoint r.point v) then some .duplicate
  else none

/-- How a commit of this gesture, now of `n` vertices, ends it (R119, R126). -/
def commitEnds (kind : GestureKind) (n : Nat) : Option DoneCause :=
  match kind with
  | .point => some .normal
  | .chain => if n < Config.vertexMax then none else some .full
  | _ => if n < 2 then none else some .normal

/-- An accepted commit, its slot reserved (R126, R128). -/
def acceptCommit (origin : Origin) (tag : Byte) (s : State) : State :=
  let r := shownResult s
  let g := s.gcu.live
  let verts := g.vertices ++ [r.point]
  let epoch := g.epoch + 1
  let rtag := originTag origin tag
  let filled := enqueue ⟨rtag, .committed origin epoch g.vertices.length r⟩ s
  match commitEnds g.kind verts.length with
  | none => searchRequest (changeLive { g with state := .tracking, vertices := verts } filled)
  | some cause =>
    searchRequest (changeLive (idleGesture g)
      (offer rtag (.gestureDone origin epoch g.kind verts.length cause g.close) filled))

/-- A commit in ARMED or TRACKING that passes tests 1 to 3: the slot is asked for (R125). -/
def commitWithSlot (origin : Origin) (tag : Byte) (s : State) : State :=
  match reserve s with
  | some s1 => acceptCommit origin tag s1
  | none =>
    match origin with
    | .button _ => refusalNotice s
    | _ => refuseClass tag .commit .state s

/-- A refusal by tests 1 to 3 is told (R124). -/
def tellRefusal (origin : Origin) (tag : Byte) (cause : RefuseCause) (s : State) : State :=
  match origin with
  | .button b => offer 0 (.commitRefused b cause) s
  | _ => refuseClass tag .commit .state s

/-- A commit in ARMED or TRACKING (R124). -/
def commitLive (origin : Origin) (tag : Byte) (s : State) : State :=
  match commitFault s.gcu.live (shownResult s) with
  | some cause => tellRefusal origin tag cause s
  | none => commitWithSlot origin tag s

/-- A COMMIT packet (R123). -/
def takeCommit (tag : Byte) (s : State) : State :=
  if s.gcu.live.state = .idle then refuseClass tag .commit .state s else commitLive .packet tag s

/-! ## END and CANCEL (R129, R130) -/

/-- A gesture in ARMED or TRACKING is cancelled (R130). -/
def cancelLive (origin : Origin) (tag : Byte) (s : State) : State :=
  let g := s.gcu.live
  searchRequest (changeLive (idleGesture g)
    (offer (originTag origin tag) (.cancelled origin (g.epoch + 1) g.kind g.vertices.length .request) s))

/-- A live gesture, not IDLE, is asked to end (R129). -/
def endLive (origin : Origin) (tag : Byte) (s : State) : State :=
  let g := s.gcu.live
  if g.kind = .chain ∧ g.state = .tracking ∧ 2 ≤ g.vertices.length then
    searchRequest (changeLive (idleGesture g)
      (offer (originTag origin tag) (.gestureDone origin (g.epoch + 1) g.kind g.vertices.length .normal g.close) s))
  else cancelLive origin tag s

/-- An END packet (R129). -/
def takeEnd (tag : Byte) (s : State) : State :=
  if s.gcu.live.state = .idle then refuseClass tag .endGesture .state s else endLive .packet tag s

/-- A CANCEL packet (R130). -/
def takeCancel (tag : Byte) (s : State) : State :=
  if s.gcu.live.state = .idle then refuseClass tag .cancel .state s else cancelLive .packet tag s

/-! ## Button presses (R131) -/

/-- A BUTTON report (R131). -/
def buttonReport (b : Fin 4) (a : Action) (s : State) : State := offer 0 (.button b a (shownResult s)) s

/-- A press handed to the GCU with its action (R61, R123, R129 to R131). -/
def takePress (b : Fin 4) (a : Action) (s : State) : State :=
  match a with
  | .none => s
  | .report => buttonReport b a s
  | .commit => if s.gcu.live.state = .idle then buttonReport b a s else commitLive (.button b) 0 s
  | .finish => if s.gcu.live.state = .idle then buttonReport b a s else endLive (.button b) 0 s
  | .cancel => if s.gcu.live.state = .idle then buttonReport b a s else cancelLive (.button b) 0 s

/-! ## Context slots (R133 to R136) -/

/-- The CONTEXT report of an accepted operation on context `c` (R136). -/
def contextReport (tag : Byte) (op : ContextOp) (i : Fin 4) (c : Gesture) (s : State) : State :=
  offer tag (.context op i (slotOf s.gcu i).isSome c.kind c.state c.vertices.length c.epoch s.gcu.live.epoch) s

/-- PARK (R133, R134). -/
def takePark (tag : Byte) (i : Fin 4) (s : State) : State :=
  let g := s.gcu.live
  if g.state = .idle ∨ (slotOf s.gcu i).isSome then refuseClass tag .context .state s
  else
    searchRequest (contextReport tag .park i g
      (changeLive (idleGesture g) (s.withGcu (setSlot s.gcu i (some g)))))

/-- COPY (R133, R134). -/
def takeCopy (tag : Byte) (i : Fin 4) (s : State) : State :=
  let g := s.gcu.live
  if g.state = .idle ∨ (slotOf s.gcu i).isSome then refuseClass tag .context .state s
  else contextReport tag .copy i g (s.withGcu (setSlot s.gcu i (some g)))

/-- RESUME (R133, R135). -/
def takeResume (tag : Byte) (i : Fin 4) (s : State) : State :=
  match slotOf s.gcu i with
  | none => refuseClass tag .context .state s
  | some c =>
    if s.gcu.live.state ≠ .idle then refuseClass tag .context .state s
    else searchRequest (contextReport tag .resume i c (changeLive c (s.withGcu (setSlot s.gcu i none))))

/-- DISCARD (R133). -/
def takeDiscard (tag : Byte) (i : Fin 4) (s : State) : State :=
  match slotOf s.gcu i with
  | none => refuseClass tag .context .state s
  | some c => contextReport tag .discard i c (s.withGcu (setSlot s.gcu i none))

/-- A CONTEXT packet's operation. -/
def takeContext (op : ContextOp) (tag : Byte) (i : Fin 4) (s : State) : State :=
  match op with
  | .park => takePark tag i s
  | .copy => takeCopy tag i s
  | .resume => takeResume tag i s
  | .discard => takeDiscard tag i s

/-! ## The gesture step of a RESET (R138) -/

/-- Step 1 of R138. -/
def resetLive (tag : Byte) (s : State) : State :=
  let g := s.gcu.live
  if g.state = .idle then s
  else
    changeLive (idleGesture g) (offer tag (.cancelled .reset (g.epoch + 1) g.kind g.vertices.length .reset) s)

/-- The gesture step of scopes GESTURE and ALL (R138). -/
def gestureReset (tag : Byte) (s : State) : State :=
  let s1 := resetLive tag s
  s1.withGcu ⟨s1.gcu.live, none, none, none, none⟩

end Sys2Proof.Machine
end

