-- ==== Sys2Proof/Machine/Tables.lean ====
section
/-! DEFINITION. The table store (chapter 5): the load protocol, builds, activation, verifies, staged tables, resets. -/

namespace Sys2Proof.Machine

/-! ## Reports of the TBS (R96) -/

def tableReport (tag : Byte) (target : Option Target) (e : TableEvent) (s : State) : State :=
  offer tag (.table target e) s

/-! ## Open loads -/

/-- The cursor and record count of the load a target has in LOADING (R71, R72). -/
def openLoad (t : Tbs) : Target → Option (Nat × Nat)
  | .snap0 => if t.bank0.state = .loading then some (t.bank0.cursor, t.bank0.count) else none
  | .snap1 => if t.bank1.state = .loading then some (t.bank1.cursor, t.bank1.count) else none
  | .ghost => if t.ghostStage.state = .loading then some (t.ghostStage.cursor, t.ghostStage.count) else none
  | .directions =>
    if t.directionStage.state = .loading then some (t.directionStage.cursor, t.directionStage.count) else none
  | .glyph => if t.glyphStage.state = .loading then some (t.glyphStage.cursor, t.glyphStage.count) else none

/-- The running CRC of a target's load. -/
def loadCrc (t : Tbs) : Target → Word16
  | .snap0 => t.bank0.runningCrc
  | .snap1 => t.bank1.runningCrc
  | .ghost => t.ghostStage.runningCrc
  | .directions => t.directionStage.runningCrc
  | .glyph => t.glyphStage.runningCrc

/-- The target is the ACTIVE bank. -/
def targetActive (t : Tbs) : Target → Bool
  | .snap0 => t.bank0.state == .active
  | .snap1 => t.bank1.state == .active
  | _ => false

/-! ## LOAD_BEGIN (R69 to R71) -/

/-- The target-state test of a bank (R70): a cause when it is refused. -/
def bankRefusal (t : Tbs) (b : BankId) : Option Cause :=
  match (bankOf t b).state with
  | .active => some .active
  | .ready => if t.pin = some b then some .inUse else none
  | _ => none

/-- The target-state test (R70, R71). -/
def beginRefusal (s : State) : Target → Option Cause
  | .snap0 => bankRefusal s.tbs .snap0
  | .snap1 => bankRefusal s.tbs .snap1
  | .ghost => if ghostInUse s then some .inUse else none
  | .directions => none
  | .glyph => none

/-- The count test (R69); `first` is the first glyph id. -/
def countOk (target : Target) (count first : Nat) : Bool :=
  match target with
  | .snap0 => 1 ≤ count && count ≤ 16384
  | .snap1 => 1 ≤ count && count ≤ 16384
  | .ghost => 1 ≤ count && count ≤ 512
  | .directions => count ≤ 24
  | .glyph => 1 ≤ count && count ≤ 16 && first + count ≤ 16

/-- A bank whose load begins (R69, R70); `shift` is the byte k read as unsigned (log entry 29); what
these rules do not set is as in an EMPTY bank (DESIGN CHOICE, log entry 28). -/
def loadingBank (count shift : Nat) (ox oy : Int) : Bank :=
  { emptyBank with
    state := .loading, count := count, shift := (clampInt 6 20 shift).toNat, originX := saturate ox, originY := saturate oy }

/-- A staging record whose load begins (R69, R71); what these rules do not set is as in an IDLE one (DESIGN CHOICE, log
entry 28). -/
def loadingStage {α : Type} (count first : Nat) : Staging α :=
  { (idleStaging : Staging α) with state := .loading, count := count, firstGlyph := first }

/-- An accepted LOAD_BEGIN of a bank: a mark on it is removed (R70). R175 and R176 do not say whether the byte k is signed:
it is read unsigned (DEDUCED, log entry 29). -/
def beginBank (b : BankId) (count : Nat) (payload : List Byte) (s : State) : State :=
  s.withTbs { setBank s.tbs b
      (loadingBank count (byteAt payload 3).toNat (stored24At payload 4).toInt (stored24At payload 7).toInt) with
    mark := unmark b s.tbs.mark }

/-- An accepted LOAD_BEGIN (R69 to R71). -/
def beginLoad (target : Target) (count : Nat) (payload : List Byte) (s : State) : State :=
  match target with
  | .snap0 => beginBank .snap0 count payload s
  | .snap1 => beginBank .snap1 count payload s
  | .ghost => s.withTbs { s.tbs with ghostStage := loadingStage count 0 }
  | .directions => s.withTbs { s.tbs with directionStage := loadingStage count 0 }
  | .glyph =>
    s.withTbs { s.tbs with glyphStage := loadingStage (Config.glyphRecords * count) ((byteAt payload 3).toNat % 16) }

/-- A LOAD_BEGIN of an allowed length (R69). -/
def takeLoadBegin (tag : Byte) (payload : List Byte) (s : State) : State :=
  match targetOf (byteAt payload 0) with
  | none => refuseClass tag .loadBegin .field s
  | some target =>
    let count := (word16At payload 1).toNat
    match beginRefusal s target with
    | some cause => refuseClass tag .loadBegin cause s
    | none =>
      if countOk target count ((byteAt payload 3).toNat % 16) then beginLoad target count payload s
      else refuseClass tag .loadBegin .count s

/-! ## LOAD_DATA (R72) -/

/-- A staging record after more records. -/
def stageRecords {α : Type} (g : Staging α) (records : List α) (crc : Word16) : Staging α :=
  { g with cursor := g.cursor + records.length, runningCrc := crc, records := g.records ++ records }

/-- A bank after more entries. -/
def bankRecords (b : Bank) (records : List SnapEntry) (crc : Word16) : Bank :=
  { b with cursor := b.cursor + records.length, runningCrc := crc, entries := b.entries ++ records }

/-- An accepted LOAD_DATA: its records are stored and its bytes enter the running CRC (R72, R177). -/
def storeRecords (target : Target) (data : List Byte) (s : State) : State :=
  let k := data.length / recordSize target
  let recs := pieces (recordSize target) k data
  let crc := crcBytes (loadCrc s.tbs target) data
  match target with
  | .snap0 => s.withTbs { s.tbs with bank0 := bankRecords s.tbs.bank0 (recs.map entryOfBytes) crc }
  | .snap1 => s.withTbs { s.tbs with bank1 := bankRecords s.tbs.bank1 (recs.map entryOfBytes) crc }
  | .ghost => s.withTbs { s.tbs with ghostStage := stageRecords s.tbs.ghostStage (recs.map ghostOfBytes) crc }
  | .directions =>
    s.withTbs { s.tbs with directionStage := stageRecords s.tbs.directionStage (recs.map directionOfBytes) crc }
  | .glyph =>
    s.withTbs { s.tbs with
      glyphStage := stageRecords s.tbs.glyphStage
        (recs.mapIdx fun i r => glyphRecordOfBytes (s.tbs.glyphStage.cursor + i) r) crc }

/-- Tests 1 to 3 that LOAD_DATA and LOAD_END share (R72, R74), for a class of packet: the target with its cursor and
record count, or the state after the refusal. -/
def loadTests (tag : Byte) (c : PacketClass) (payload : List Byte) (s : State) : State ⊕ (Target × Nat × Nat) :=
  match targetOf (byteAt payload 0) with
  | none => .inl (refuseClass tag c .field s)
  | some target =>
    if target = .ghost ∧ ghostInUse s then .inl (refuseClass tag c .inUse s)
    else
      match openLoad s.tbs target with
      | none => .inl (refuseClass tag c (if targetActive s.tbs target then .active else .sequence) s)
      | some (cursor, count) => .inr (target, cursor, count)

/-- A LOAD_DATA of an allowed length (R72). -/
def takeLoadData (tag : Byte) (payload : List Byte) (s : State) : State :=
  match loadTests tag .loadData payload s with
  | .inl s1 => s1
  | .inr (target, cursor, count) =>
    let index := (word16At payload 1).toNat
    let data := payload.drop 3
    if index ≠ cursor then refuse tag (classCode .loadData) .sequence (some cursor) s
    else if count < index + data.length / recordSize target then
      refuse tag (classCode .loadData) .overflow (some cursor) s
    else storeRecords target data s

/-! ## Staged tables (R90) -/

/-- A glyph of a loaded run: header and rows at its 33 records (R71). -/
def glyphOfRecords (records : List GlyphRecord) : Glyph :=
  let rows := records.filterMap fun r => match r with
    | .row bits => some bits
    | .header _ _ => none
  match records.head? with
  | some (.header hx hy) => ⟨hx, hy, rows⟩
  | _ => ⟨0, 0, rows⟩

/-- The glyph table with the staged glyphs in place (R90). -/
def mergeGlyphs (first : Nat) (records : List GlyphRecord) (table : List Glyph) : List Glyph :=
  table.mapIdx fun i g =>
    if first ≤ i ∧ i < first + records.length / Config.glyphRecords then
      glyphOfRecords ((records.drop (Config.glyphRecords * (i - first))).take Config.glyphRecords)
    else g

/-- The staged ghost list becomes current (R90). -/
def commitGhosts (s : State) : State :=
  let g := s.tbs.ghostStage
  if g.state = .staged then
    tableReport g.loadTag (some .ghost) (.committed g.count)
      (s.withTbs { s.tbs with ghosts := g.records, ghostStage := idleStaging })
  else s

/-- The staged direction table becomes current (R90). -/
def commitDirections (s : State) : State :=
  let g := s.tbs.directionStage
  if g.state = .staged then
    tableReport g.loadTag (some .directions) (.committed g.count)
      (s.withTbs { s.tbs with directions := g.records, directionStage := idleStaging })
  else s

/-- The staged glyphs become current (R90). -/
def commitGlyphs (s : State) : State :=
  let g := s.tbs.glyphStage
  if g.state = .staged then
    tableReport g.loadTag (some .glyph) (.committed g.count)
      (s.withTbs { s.tbs with glyphs := mergeGlyphs g.firstGlyph g.records s.tbs.glyphs, glyphStage := idleStaging })
  else s

/-- Every staged table becomes current, in the order GHOST, DIRECTIONS, GLYPH (R90). -/
def commitStaged (s : State) : State := commitGlyphs (commitDirections (commitGhosts s))

/-! ## LOAD_END (R74) -/

/-- A bank's LOAD_END whose CRC matches: the build starts (R74, R77). -/
def startBuild (b : BankId) (tag : Byte) (crc : Word16) (s : State) : State :=
  s.withTbs (setBank s.tbs b { bankOf s.tbs b with state := .building, acceptedCrc := some crc, loadTag := tag })

/-- A bank's LOAD_END whose CRC differs (R74). -/
def bankMismatch (b : BankId) (tag : Byte) (s : State) : State :=
  tableReport tag (some (bankTarget b)) .mismatch
    (s.withTbs (setBank s.tbs b { bankOf s.tbs b with state := .damaged }))

/-- The staging record of a LOAD_END whose CRC matches. -/
def staged {α : Type} (g : Staging α) (tag : Byte) : Staging α := { g with state := .staged, loadTag := tag }

/-- A small target's content is staged (R74). -/
def stageTarget (target : Target) (tag : Byte) (s : State) : State :=
  match target with
  | .ghost => s.withTbs { s.tbs with ghostStage := staged s.tbs.ghostStage tag }
  | .directions => s.withTbs { s.tbs with directionStage := staged s.tbs.directionStage tag }
  | .glyph => s.withTbs { s.tbs with glyphStage := staged s.tbs.glyphStage tag }
  | _ => s

/-- A small target's LOAD_END whose CRC differs: its records are discarded (R74). -/
def stageMismatch (target : Target) (tag : Byte) (s : State) : State :=
  tableReport tag (some target) .mismatch
    (match target with
    | .ghost => s.withTbs { s.tbs with ghostStage := idleStaging }
    | .directions => s.withTbs { s.tbs with directionStage := idleStaging }
    | .glyph => s.withTbs { s.tbs with glyphStage := idleStaging }
    | _ => s)

/-- A small target's LOAD_END whose CRC matches: staged while LOCKED, and current at once otherwise, with a search
request for DIRECTIONS (R74, R90). -/
def stageOrCommit (target : Target) (tag : Byte) (s : State) : State :=
  let s1 := stageTarget target tag s
  if isLocked s then s1
  else
    match target with
    | .ghost => commitGhosts s1
    | .directions => searchRequest (commitDirections s1)
    | .glyph => commitGlyphs s1
    | _ => s1

/-- A LOAD_END that reaches the CRC comparison (R74). -/
def closeLoad (target : Target) (tag : Byte) (crc : Word16) (s : State) : State :=
  let good : Bool := loadCrc s.tbs target == crc
  match target with
  | .snap0 => if good then startBuild .snap0 tag crc s else bankMismatch .snap0 tag s
  | .snap1 => if good then startBuild .snap1 tag crc s else bankMismatch .snap1 tag s
  | _ => if good then stageOrCommit target tag s else stageMismatch target tag s

/-- A LOAD_END of an allowed length (R74). -/
def takeLoadEnd (tag : Byte) (payload : List Byte) (s : State) : State :=
  match loadTests tag .loadEnd payload s with
  | .inl s1 => s1
  | .inr (target, cursor, count) =>
    if cursor < count then refuseClass tag .loadEnd .short s else closeLoad target tag (word16At payload 1) s

/-! ## Builds (R76 to R78) -/

/-- The cell of an entry in a bank's directory, none when it is void (R76). -/
def entryCell (b : Bank) (e : SnapEntry) : Option Nat :=
  if entryVoid e then none
  else some (cellNumber b.shift b.originX b.originY (entryPoint e).x.value (entryPoint e).y.value)

/-- The cell of each entry, in load order. -/
def entryCells (b : Bank) : List (Option Nat) := b.entries.map (entryCell b)

/-- The load indices of the entries filed in a cell, ascending (R76). -/
def filedIn (cells : List (Option Nat)) (c : Nat) : List Nat :=
  (List.range cells.length).filter fun i => cells.getD i none == some c

/-- The cell index list: grouped by cell number ascending (R76). -/
def buildIndex (cells : List (Option Nat)) : List Nat :=
  (List.range (Config.cellsPerAxis * Config.cellsPerAxis)).flatMap (filedIn cells)

/-- The directory cell of a cell number (R76). -/
def buildCell (cells : List (Option Nat)) (c : Nat) : DirCell :=
  ⟨(cells.filter fun k => k.any fun n => decide (n < c)).length, (cells.filter fun k => k == some c).length⟩

/-- The directory: the 4,096 cells (R76). -/
def buildDirectory (cells : List (Option Nat)) : List DirCell :=
  (List.range (Config.cellsPerAxis * Config.cellsPerAxis)).map (buildCell cells)

/-- A bank whose build has completed (R76 to R78). -/
def builtBank (b : Bank) : Bank :=
  let cells := entryCells b
  let dir := buildDirectory cells
  { b with
    state := .ready, directory := dir, cellIndex := buildIndex cells,
    voidCount := (cells.filter Option.isNone).length, largest := dir.foldl (fun m c => max m c.count) 0 }

/-- A build completes (R78). With no build under way on the bank nothing happens (log entry 6). -/
def completeBuild (id : BankId) (s : State) : State :=
  if (bankOf s.tbs id).state = .building then
    let b := builtBank (bankOf s.tbs id)
    tableReport b.loadTag (some (bankTarget id)) (.built b.count b.voidCount b.largest) (s.withTbs (setBank s.tbs id b))
  else s

/-! ## Activation (R80 to R82) -/

/-- Step 1 of R81: the ACTIVE bank becomes READY, and a verify running on it is aborted with a report (R88). -/
def retireActive (s : State) : State :=
  match activeBank s.tbs with
  | none => s
  | some a =>
    let s1 := s.withTbs (setBank s.tbs a { bankOf s.tbs a with state := .ready })
    match s.tbs.verify with
    | none => s1
    | some j =>
      if j.bank = a then
        tableReport j.tag (some (bankTarget j.bank)) .aborted (s1.withTbs { s1.tbs with verify := none })
      else s1

/-- Steps 2 and 3 of R81. -/
def installMark (target : Option BankId) (t : Tbs) : Tbs :=
  let t1 := match target with
    | none => t
    | some b => setBank t b { bankOf t b with state := .active }
  { t1 with mark := none, snapDown := false }

/-- A mark takes effect (R81), its search request left to the event's end (R98). -/
def activate (m : Mark) (s : State) : State :=
  let s1 := retireActive s
  tableReport m.tag (m.target.map bankTarget) .activated (s1.withTbs (installMark m.target s1.tbs))

/-- The mark is set; while the lock machine is not LOCKED it takes effect at once (R80). -/
def setMark (m : Mark) (s : State) : State :=
  if isLocked s then s.withTbs { s.tbs with mark := some m }
  else searchRequest (activate m (s.withTbs { s.tbs with mark := some m }))

/-- The ACTIVATE names what is already in force: any mark is removed (R80). -/
def dropMark (s : State) : State := s.withTbs { s.tbs with mark := none }

/-- An ACTIVATE of a bank (R80). -/
def activateBank (tag : Byte) (b : BankId) (s : State) : State :=
  match (bankOf s.tbs b).state with
  | .active => dropMark s
  | .ready =>
    if (bankOf s.tbs b).fate.isSome then refuseClass tag .activate .inUse s else setMark ⟨some b, tag⟩ s
  | _ => refuseClass tag .activate .notReady s

/-- An ACTIVATE of an allowed length (R80, R176). -/
def takeActivate (tag : Byte) (payload : List Byte) (s : State) : State :=
  match activateTargetOf (byteAt payload 0) with
  | none => refuseClass tag .activate .field s
  | some (some b) => activateBank tag b s
  | some none => if (activeBank s.tbs).isNone then dropMark s else setMark ⟨none, tag⟩ s

/-! ## Verify (R85 to R89) -/

/-- A verify of a bank starts (R85, R87). -/
def startVerify (b : BankId) (tag : Byte) (s : State) : State :=
  s.withTbs { s.tbs with verify := some ⟨b, 0, Config.crcInit, tag⟩ }

/-- A VERIFY packet (R85). -/
def takeVerify (tag : Byte) (s : State) : State :=
  match activeBank s.tbs, s.tbs.verify with
  | none, _ => refuseClass tag .verify .notReady s
  | some _, some _ => s
  | some b, none => startVerify b tag s

/-- The counter has reached verify_interval: it returns to 0, and a verify starts with tag 0 when a bank is ACTIVE and
the machine is IDLE (R86). -/
def intervalExpiry (s : State) : State :=
  let s1 := s.withTbs { s.tbs with interval := 0 }
  match activeBank s.tbs, s.tbs.verify with
  | some b, none => startVerify b 0 s1
  | _, _ => s1

/-- One more active end takes the counter to verify_interval (R86, R182); with verify_interval 0 none does. -/
def reachesInterval (s : State) : Bool :=
  verifyInterval (settings s) != 0 && verifyInterval (settings s) ≤ s.tbs.interval + 1

/-- The TBS's part in an active end (R86). -/
def countActiveEnd (s : State) : State :=
  if verifyInterval (settings s) = 0 then s.withTbs { s.tbs with interval := 0 }
  else if reachesInterval s then intervalExpiry s
  else s.withTbs { s.tbs with interval := s.tbs.interval + 1 }

/-- The interval-change notice (R86). -/
def intervalNotice (s : State) : State := s.withTbs { s.tbs with interval := 0 }

/-- VERIFY_INTERVAL_EXPIRY (R86): the counter's last advance as an event of its own (DEDUCED, log entry 11). Outside LOCKED
the count stands still (R181), and short of the interval nothing begins (R182): there it changes nothing. -/
def intervalEvent (s : State) : State := if isLocked s && reachesInterval s then intervalExpiry s else s

/-- A bank that must leave use: at once, or by a fate when it is pinned (R84). -/
def leaveUse (b : BankId) (f : Fate) (t : Tbs) : Tbs :=
  if t.pin = some b then
    { setBank t b { bankOf t b with state := .ready, fate := some f } with mark := unmark b t.mark }
  else
    setBank t b (match f with
      | .empty => emptyBank
      | .damaged => { bankOf t b with state := .damaged, fate := none })

/-- The CRC a verify ends with: over the entries still unread, and what a disturbance changed (R87; log entry 8). -/
def verifyCrc (t : Tbs) (j : VerifyJob) (upset : Word16) : Word16 :=
  crcBytes j.crc (((bankOf t j.bank).entries.drop j.next).flatMap bytesOfEntry) ^^^ upset

/-- A verify ends (R89). With none running nothing happens (log entry 6). -/
def completeVerify (upset : Word16) (s : State) : State :=
  match s.tbs.verify with
  | none => s
  | some j =>
    let s1 := s.withTbs { s.tbs with verify := none }
    if some (verifyCrc s.tbs j upset) = (bankOf s.tbs j.bank).acceptedCrc then
      tableReport j.tag (some (bankTarget j.bank)) .verified s1
    else
      tableReport j.tag (some (bankTarget j.bank)) .damaged
        (s1.withTbs { leaveUse j.bank .damaged s1.tbs with snapDown := true })

/-! ## The tables step of a RESET (R95) -/

/-- The tables step of scopes TABLES and ALL (R95). The interval counter keeps its count. -/
def tablesReset (s : State) : State :=
  let t := leaveUse .snap1 .empty (leaveUse .snap0 .empty s.tbs)
  s.withTbs { t with
    mark := none
    verify := none
    ghostStage := idleStaging
    directionStage := idleStaging
    glyphStage := idleStaging
    ghosts := []
    directions := []
    glyphs := builtinGlyphs
    snapDown := false }

/-! ## The events that are commands of their own -/

/-- BUILD_COMPLETE (R78). -/
def execBuildComplete (b : BankId) (s : State) : Host.Outcome State Fault Refusal := whileRunning (completeBuild b) s

/-- VERIFY_INTERVAL_EXPIRY (R86). -/
def execVerifyIntervalExpiry (s : State) : Host.Outcome State Fault Refusal := whileRunning intervalEvent s

/-- VERIFY_COMPLETE (R89). -/
def execVerifyComplete (upset : Word16) (s : State) : Host.Outcome State Fault Refusal :=
  whileRunning (completeVerify upset) s

end Sys2Proof.Machine
end

