-- ==== Sys2Proof/Machine/Pointer.lean ====
section
/-! DEFINITION. The pointer unit (chapter 4): the tablet line, frames, the mailbox, presses, the packet source. -/

namespace Sys2Proof.Machine

/-! ## The mailbox (R56, R58) -/

/-- A placement: the next sequence number, the whole mailbox replaced (R56). Its search request is raised by the event. -/
def place (point : Point) (proximity : Bool) (s : State) : State :=
  s.withPtu { s.ptu with
    sequence := s.ptu.sequence + 1, mailbox := ⟨point, proximity, s.ptu.sequence + 1⟩ }

/-- A placement of the last point with proximity OUT (R58). -/
def placeAbsent (s : State) : State := place s.ptu.mailbox.point false s

/-- The pointer is present: the mailbox sample has proximity IN. -/
def pointerPresent (s : State) : Bool := s.ptu.mailbox.proximity

/-! ## Buttons (R60, R61) -/

/-- The levels read from a frame: all up when proximity is out (R60). -/
def readLevels (proximity : Bool) (bits : BitVec 4) : BitVec 4 := if proximity then bits else 0

/-- The presses of a frame, in ascending button order (R60). -/
def presses (previous levels : BitVec 4) : List (Fin 4) :=
  ([0, 1, 2, 3] : List (Fin 4)).filter fun b => levels.getLsbD b.val && !previous.getLsbD b.val

/-- The presses are compared and handed over, each with the action its field maps it to, read at the frame's completion
(R60, R61). -/
def handPresses (levels : BitVec 4) (s : State) : State :=
  let t := settings s
  (presses s.ptu.buttons levels).foldl (fun s b => takePress b (buttonAction t b) s)
    (s.withPtu { s.ptu with buttons := levels })

/-! ## Frames (R36, R54, R55, R57) -/

/-- The calibrated point of a frame's counts (R36). -/
def calibrate (t : Settings) (countX countY : Nat) : Point :=
  let cx := if swapAxes t then countY else countX
  let cy := if swapAxes t then countX else countY
  ⟨calibrateAxis cx (scaleX t) (offsetX t), calibrateAxis cy (scaleY t) (offsetY t)⟩

/-- The placement of a good frame (R57, R58). -/
def placeFrame (bytes : List Byte) (s : State) : State :=
  if frameProximity bytes then place (calibrate (settings s) (frameCountX bytes) (frameCountY bytes)) true s
  else placeAbsent s

/-- The tablet silence timer is restarted (R59). -/
def restartSilence (s : State) : State :=
  s.withPtu { s.ptu with silence := .running Config.tabletSilenceMs }

/-- A good frame while the TABLET is the source in use: placement with its request, timer, presses (R55). -/
def acceptFrame (bytes : List Byte) (s : State) : State :=
  handPresses (readLevels (frameProximity bytes) (frameButtons bytes))
    (restartSilence (searchRequest (placeFrame bytes s)))

/-- A complete frame is judged (R54, R55). -/
def judgeFrame (bytes : List Byte) (s : State) : State :=
  if frameGood bytes then (if s.ptu.source = .tablet then acceptFrame bytes s else s) else setTabletErr s

/-! ## The frame receiver (R52, R53) -/

def setReceiver (r : FrameReceiver) (s : State) : State := s.withPtu { s.ptu with receiver := r }

/-- A byte at the frame receiver (R53). While the receiver waits for the line to return high there is no start bit, and
so no byte (R52). -/
def takeTabletByte (b : Byte) (s : State) : State :=
  if s.ptu.lineLow then s
  else
    match s.ptu.receiver with
    | .hunt => if b.msb then setReceiver (.collect [b]) s else s
    | .collect bytes =>
      if b.msb then setReceiver (.collect [b]) (setTabletErr s)
      else if bytes.length < 7 then setReceiver (.collect (bytes ++ [b])) s
      else judgeFrame (bytes ++ [b]) (setReceiver .hunt s)

/-- A framing error (R52, R53): a line held low gives one. -/
def takeFramingError (s : State) : State :=
  if s.ptu.lineLow then s
  else
    let s1 := setTabletErr (setReceiver .hunt s)
    s1.withPtu { s1.ptu with lineLow := true }

/-- The tablet line returns high (R52). -/
def lineReturnsHigh (s : State) : State := s.withPtu { s.ptu with lineLow := false }

/-- The eight characters of a frame, one after the other (log entry 10). -/
def takeTabletFrame (bytes : List Byte) (s : State) : State := bytes.foldl (fun s b => takeTabletByte b s) s

/-! ## Silence (R59) -/

/-- The tablet silence timer expires (R59). With the timer stopped nothing happens (log entry 6). -/
def tabletSilence (s : State) : State :=
  match s.ptu.silence with
  | .stopped => s
  | .running _ =>
    if pointerPresent s then
      let s1 := placeAbsent s
      searchRequest (s1.withPtu { s1.ptu with buttons := 0, silence := .stopped })
    else s.withPtu { s.ptu with silence := .stopped }

/-! ## The packet source (R62) and the source change (R65) -/

/-- The placement of an accepted POINTER packet (R62). -/
def placePacket (payload : List Byte) (s : State) : State :=
  if byteAt payload 6 ≠ 0 then place (storedPoint (stored24At payload 0) (stored24At payload 3)) true s
  else placeAbsent s

/-- A POINTER packet of an allowed length (R62). -/
def takePointer (tag : Byte) (payload : List Byte) (s : State) : State :=
  if s.ptu.source = .tablet then refuseClass tag .pointer .source s
  else
    handPresses (readLevels (byteAt payload 6 != 0) ((byteAt payload 7).extractLsb' 0 4))
      (searchRequest (placePacket payload s))

/-- The source-change notice (R65); the search request is the occasion's (R98). -/
def sourceNotice (s : State) : State :=
  if sourceField (settings s) = s.ptu.source then s
  else
    let s1 := placeAbsent (s.withPtu { s.ptu with source := sourceField (settings s) })
    s1.withPtu { s1.ptu with buttons := 0, silence := .stopped }

/-- The mailbox step of RESET ALL (R66). -/
def mailboxReset (s : State) : State :=
  s.withPtu { s.ptu with mailbox := emptySample, sequence := 0, buttons := 0, silence := .stopped }

/-! ## The events that are commands of their own -/

/-- TABLET_BYTE (R53). -/
def execTabletByte (b : Byte) (s : State) : Host.Outcome State Fault Refusal := whileRunning (takeTabletByte b) s

/-- TABLET_FRAMING_ERROR (R52). -/
def execTabletFramingError (s : State) : Host.Outcome State Fault Refusal := whileRunning takeFramingError s

/-- TABLET_FRAME (R54). -/
def execTabletFrame (status x2 x1 x0 y2 y1 y0 check : Byte) (s : State) : Host.Outcome State Fault Refusal :=
  whileRunning (takeTabletFrame [status, x2, x1, x0, y2, y1, y0, check]) s

/-- TABLET_SILENCE_EXPIRY (R59). -/
def execTabletSilenceExpiry (s : State) : Host.Outcome State Fault Refusal := whileRunning tabletSilence s

/-- TABLET_LINE_RETURN_HIGH (R52). -/
def execTabletLineReturnHigh (s : State) : Host.Outcome State Fault Refusal := whileRunning lineReturnsHigh s

end Sys2Proof.Machine
end

