-- ==== Sys2Proof/Machine/Apply.lean ====
section
/-! DEFINITION. What crosses the blocks: the notices of R23, the apply point (R12, R22, R82), SET, and the scoped
resets (R30). -/

namespace Sys2Proof.Machine

/-- The settings store replaced. -/
def setSettings (t : Settings) (s : State) : State := s.withPds { s.pds with settings := t }

/-- A notice is given when it is wanted. -/
def noticeIf (wanted : Bool) (f : State → State) (s : State) : State := if wanted then f s else s

/-- The notices of one occasion, after all its values are current; the search request is left to the event's end
(R23, R98). -/
def giveNotices (n : Notices) (s : State) : State :=
  noticeIf n.interval intervalNotice (noticeIf n.period periodNotice (noticeIf n.source sourceNotice s))

/-! ## The apply point (R12) -/

/-- Pending settings become current, with their notices (R22, R23). -/
def applyPending (s : State) : State :=
  giveNotices (noticesOfPending (settings s)) (setSettings (applySettings (settings s)) s)

/-- A mark takes effect, when one is held (R81). -/
def applyMark (s : State) : State :=
  match s.tbs.mark with
  | none => s
  | some m => activate m s

/-- The one search request an apply point comes to (R98): settings of VIEW, TABLET or SNAP, an activation, or a commit of
the direction table. -/
def applyRequests (s : State) : Bool :=
  (noticesOfPending (settings s)).search || s.tbs.mark.isSome || s.tbs.directionStage.state == .staged

/-- The apply point (R12): settings (R22), the marked activation and then the staged tables (R82), the fence list (R29),
and the search request (R98). -/
def applyPoint (s : State) : State :=
  requestIf (applyRequests s) (completeFence (commitStaged (applyMark (applyPending s))))

/-! ## SET (R20, R21, R23) -/

/-- An accepted SET (R20), with the notices of R23 outside LOCKED. A SET that changes the source raises one search request,
and not one for the placement of R65 beside one for TABLET (DESIGN CHOICE, log entry 27). -/
def acceptSet (g : Group) (pairs : List (Byte × Int)) (s : State) : State :=
  let t := settings s
  let s1 := setSettings (setGroupCells t g (writeGroup g (isLocked s) pairs (groupCells t g))) s
  if isLocked s then s1
  else
    let n := noticesOfSet g (groupCells t g) pairs
    requestIf n.search (giveNotices n s1)

/-- A SET of an allowed length, by its group byte and pairs (R20). -/
def takeSet (tag group : Byte) (pairs : List (Byte × Int)) (s : State) : State :=
  match groupOf group with
  | none => refuseClass tag .set .field s
  | some g => if fieldsKnown g pairs then acceptSet g pairs s else refuseClass tag .set .field s

/-! ## Scoped resets (R30) -/

/-- The settings step (R30, step 3): reset values at once, nothing pending, every notice given. -/
def settingsReset (s : State) : State := giveNotices allNotices (setSettings resetSettings s)

/-- The waiting SYNC packets after a RESET of scope GESTURE, TABLES or SETTINGS (R29). -/
def fenceAfterReset (s : State) : State := if pendingItem s then s else completeFence s

/-- The end of a RESET: its search request, then RESET_DONE (R30). -/
def finishReset (tag : Byte) (scope : Scope) (s : State) : State :=
  offer tag (.resetDone scope) (searchRequest s)

/-- RESET with scope GESTURE. -/
def resetScopeGesture (tag : Byte) (s : State) : State :=
  finishReset tag .gesture (fenceAfterReset (gestureReset tag s))

/-- RESET with scope TABLES. -/
def resetScopeTables (tag : Byte) (s : State) : State :=
  finishReset tag .tables (fenceAfterReset (tablesReset s))

/-- RESET with scope SETTINGS. -/
def resetScopeSettings (tag : Byte) (s : State) : State :=
  finishReset tag .settings (fenceAfterReset (settingsReset s))

/-- The report queue is flushed; the notice and the flag stay as they are (R172). -/
def flushQueue (s : State) : State := s.withRlt { s.rlt with queue := [] }

/-- The fence list is emptied with no SYNC_DONE (R29, scope ALL). -/
def dropFence (s : State) : State := s.withPds { s.pds with fence := [] }

/-- The five steps of scope ALL, in their order (R30). The CANCELLED report of step 1 is offered by R166 to the queue as it
stands before the flush of step 4 (log entry 21). -/
def resetAllSteps (tag : Byte) (s : State) : State :=
  mailboxReset (flushQueue (settingsReset (tablesReset (gestureReset tag s))))

/-- RESET with scope ALL: RESET_DONE stands first in the flushed queue (R172). -/
def resetScopeAll (tag : Byte) (s : State) : State := finishReset tag .all (dropFence (resetAllSteps tag s))

end Sys2Proof.Machine
end

