-- ==== Sys2Proof/Machine/Packets.lean ====
section
/-! DEFINITION. The packet decoder (sections 2.1 and 2.2): the receive states, the check, dispatch to the owners, and the
commands that are packets. -/

namespace Sys2Proof.Machine

/-! ## Owners (R17, step 3) -/

/-- A packet of a known class and an allowed length is taken by its owner. -/
def takeOwned (c : PacketClass) (tag : Byte) (payload : List Byte) (s : State) : State :=
  match c with
  | .set => takeSet tag (byteAt payload 0) ((setPairs (byteAt payload 0) (payload.drop 1)).getD []) s
  | .read => readGroup tag (byteAt payload 0) s
  | .loadBegin => takeLoadBegin tag payload s
  | .loadData => takeLoadData tag payload s
  | .loadEnd => takeLoadEnd tag payload s
  | .activate => takeActivate tag payload s
  | .verify => takeVerify tag s
  | .gesture => takeGesture tag payload s
  | .commit => takeCommit tag s
  | .endGesture => takeEnd tag s
  | .cancel => takeCancel tag s
  | .context => takeContext (contextOpOf (byteAt payload 0)) tag (contextSlotOf (byteAt payload 0)) s
  | .pointer => takePointer tag payload s
  | .sync => takeSync tag s
  | .echo => takeEcho tag payload s
  | .reset =>
    match scopeOf (byteAt payload 0) with
    | none => refuseClass tag .reset .field s
    | some .gesture => resetScopeGesture tag s
    | some .tables => resetScopeTables tag s
    | some .settings => resetScopeSettings tag s
    | some .all => resetScopeAll tag s

/-- A good packet of a known class: the length test, then the owner (R17, R176). -/
def takeClass (c : PacketClass) (tag : Byte) (payload : List Byte) (s : State) : State :=
  if lengthOk c payload then takeOwned c tag payload s else refuseClass tag c .length s

/-- A good packet (R17): the class test first. -/
def takePacket (cls tag : Byte) (payload : List Byte) (s : State) : State :=
  match classOf cls with
  | none => refuse tag cls .cls none s
  | some c => takeClass c tag payload s

/-! ## The receive states (R14 to R16) -/

def setReceive (r : Receive) (s : State) : State := s.withPds { s.pds with receive := r }

/-- An ERROR report with cause CHECK, which carries no tag and no class (R15, R18). -/
def checkError (s : State) : State := refuse 0 0 .check none s

/-- The check sum of a packet (R15). -/
def packetSum (cls len tag : Byte) (payload : List Byte) (check : Byte) : Byte :=
  cls + len + tag + payload.foldl (· + ·) 0 + check

/-- The check byte is stored: the decoder returns to HUNT and the packet is judged (R15). -/
def judgePacket (cls len tag : Byte) (payload : List Byte) (check : Byte) (s : State) : State :=
  let s1 := setReceive .hunt s
  if packetSum cls len tag payload check = 0 then takePacket cls tag payload s1 else checkError s1

/-- One control byte (R14). -/
def takeControlByte (b : Byte) (s : State) : State :=
  match s.pds.receive with
  | .hunt => if b = Config.packetLead then setReceive .cls s else s
  | .cls => setReceive (.length b) s
  | .length cls =>
    if b.toNat ≤ Config.payloadMax then setReceive (.tag cls b) s else checkError (setReceive .hunt s)
  | .tag cls len => setReceive (if len = 0 then .check cls len b [] else .payload cls len b []) s
  | .payload cls len tag got =>
    let more := got ++ [b]
    setReceive (if more.length < len.toNat then .payload cls len tag more else .check cls len tag more) s
  | .check cls len tag got => judgePacket cls len tag got b s

/-- A partial packet is discarded with no report (R16). -/
def discardPartial (s : State) : State := setReceive .hunt s

/-- The three bytes of a control-byte cycle, in order (R3). -/
def controlBytes (vd : Rgb) : List Byte := [vd.extractLsb' 16 8, vd.extractLsb' 8 8, vd.extractLsb' 0 8]

/-- A run of control bytes. -/
def takeControlBytes (bytes : List Byte) (s : State) : State := bytes.foldl (fun s b => takeControlByte b s) s

/-! ## The commands that are packets -/

/-- PACKET_UNKNOWN_CLASS (R17). -/
def execPacketUnknownClass (cls tag : Byte) (payload : List Byte) (s : State) : Host.Outcome State Fault Refusal :=
  whileRunning (takePacket cls tag payload) s

/-- SET (R20). -/
def execSet (tag : Byte) (payload : List Byte) (s : State) : Host.Outcome State Fault Refusal :=
  whileRunning (takeClass .set tag payload) s

/-- READ (R24). -/
def execRead (tag : Byte) (payload : List Byte) (s : State) : Host.Outcome State Fault Refusal :=
  whileRunning (takeClass .read tag payload) s

/-- READ_IDENTITY (R25). -/
def execReadIdentity (tag : Byte) (s : State) : Host.Outcome State Fault Refusal :=
  whileRunning (takeClass .read tag [identityCode]) s

/-- READ_STATUS (R26). -/
def execReadStatus (tag : Byte) (s : State) : Host.Outcome State Fault Refusal :=
  whileRunning (takeClass .read tag [statusCode]) s

/-- LOAD_BEGIN (R69). -/
def execLoadBegin (tag : Byte) (payload : List Byte) (s : State) : Host.Outcome State Fault Refusal :=
  whileRunning (takeClass .loadBegin tag payload) s

/-- LOAD_DATA (R72). -/
def execLoadData (tag : Byte) (payload : List Byte) (s : State) : Host.Outcome State Fault Refusal :=
  whileRunning (takeClass .loadData tag payload) s

/-- LOAD_END (R74). -/
def execLoadEnd (tag : Byte) (payload : List Byte) (s : State) : Host.Outcome State Fault Refusal :=
  whileRunning (takeClass .loadEnd tag payload) s

/-- ACTIVATE (R80). -/
def execActivate (tag : Byte) (payload : List Byte) (s : State) : Host.Outcome State Fault Refusal :=
  whileRunning (takeClass .activate tag payload) s

/-- VERIFY (R85). -/
def execVerify (tag : Byte) (payload : List Byte) (s : State) : Host.Outcome State Fault Refusal :=
  whileRunning (takeClass .verify tag payload) s

/-- GESTURE (R121). -/
def execGesture (tag : Byte) (payload : List Byte) (s : State) : Host.Outcome State Fault Refusal :=
  whileRunning (takeClass .gesture tag payload) s

/-- COMMIT (R124). -/
def execCommit (tag : Byte) (payload : List Byte) (s : State) : Host.Outcome State Fault Refusal :=
  whileRunning (takeClass .commit tag payload) s

/-- END (R129). -/
def execEndGesture (tag : Byte) (payload : List Byte) (s : State) : Host.Outcome State Fault Refusal :=
  whileRunning (takeClass .endGesture tag payload) s

/-- CANCEL (R130). -/
def execCancel (tag : Byte) (payload : List Byte) (s : State) : Host.Outcome State Fault Refusal :=
  whileRunning (takeClass .cancel tag payload) s

/-- PARK (R133). -/
def execPark (tag : Byte) (slot : Fin 4) (s : State) : Host.Outcome State Fault Refusal :=
  whileRunning (takeContext .park tag slot) s

/-- COPY (R133). -/
def execCopy (tag : Byte) (slot : Fin 4) (s : State) : Host.Outcome State Fault Refusal :=
  whileRunning (takeContext .copy tag slot) s

/-- RESUME (R135). -/
def execResume (tag : Byte) (slot : Fin 4) (s : State) : Host.Outcome State Fault Refusal :=
  whileRunning (takeContext .resume tag slot) s

/-- DISCARD (R133). -/
def execDiscard (tag : Byte) (slot : Fin 4) (s : State) : Host.Outcome State Fault Refusal :=
  whileRunning (takeContext .discard tag slot) s

/-- POINTER (R62). -/
def execPointer (tag : Byte) (payload : List Byte) (s : State) : Host.Outcome State Fault Refusal :=
  whileRunning (takeClass .pointer tag payload) s

/-- SYNC (R29). -/
def execSync (tag : Byte) (payload : List Byte) (s : State) : Host.Outcome State Fault Refusal :=
  whileRunning (takeClass .sync tag payload) s

/-- ECHO (R28). -/
def execEcho (tag : Byte) (payload : List Byte) (s : State) : Host.Outcome State Fault Refusal :=
  whileRunning (takeClass .echo tag payload) s

/-- RESET_GESTURE (R138). -/
def execResetGesture (tag : Byte) (s : State) : Host.Outcome State Fault Refusal :=
  whileRunning (resetScopeGesture tag) s

/-- RESET_TABLES (R95). -/
def execResetTables (tag : Byte) (s : State) : Host.Outcome State Fault Refusal :=
  whileRunning (resetScopeTables tag) s

/-- RESET_SETTINGS (R30). -/
def execResetSettings (tag : Byte) (s : State) : Host.Outcome State Fault Refusal :=
  whileRunning (resetScopeSettings tag) s

/-- RESET_ALL (R30). -/
def execResetAll (tag : Byte) (s : State) : Host.Outcome State Fault Refusal :=
  whileRunning (resetScopeAll tag) s

end Sys2Proof.Machine
end

