-- ==== Sys2Proof/Machine/Video.lean ====
section
/-! DEFINITION. The video path and lock unit (chapter 1): input cycles, lines and frames, the lock machine, timing events,
the overlay window and the delay path. -/

namespace Sys2Proof.Machine

/-! ## Measurement (R5) -/

/-- The record after a line of this length has ended (R5). -/
def addLine (length : Nat) (r : FrameRecord) : FrameRecord where
  usable := r.usable
  firstLength := if r.lines = 0 then length else r.firstLength
  uniform := if r.lines = 0 then r.uniform else r.uniform && length == r.firstLength
  lines := min (r.lines + 1) Config.lineMax

/-- The record of a new frame (R5). -/
def newRecord : FrameRecord := ⟨true, 0, true, 0⟩

/-- A consistent frame (R5). -/
def consistent (r : FrameRecord) : Bool := r.usable && r.uniform && 1 ≤ r.lines

/-- A frame within limits (R5). -/
def withinLimits (r : FrameRecord) : Bool :=
  Config.widthMin ≤ r.firstLength && r.firstLength ≤ Config.widthMax && Config.heightMin ≤ r.lines &&
  r.lines ≤ Config.heightMax

/-! ## Lock loss (R9, R10, R12, R160) -/

/-- The first `n` held cycles, the newest ones, leave as their input values (R13, WIDTH fault). -/
def restoreNewest (n : Nat) (path : List PathCycle) : List PathCycle :=
  path.mapIdx fun i c => if i < n then { c with outVd := c.vd } else c

/-- The lock machine has left LOCKED and its LINK report is offered: the apply point of the loss, and the composer's part
(R12, R82, R160). -/
def lockLoss (s : State) : State := composerLockLoss (applyPoint s)

/-- A lock fault at line index `line` (R9, R13); `restore` is how many cycles of that line are in the path. -/
def lockFault (fault : LockFault) (line restore : Nat) (s : State) : State :=
  let v := { s.vpl with
    lock := .search, candidate := none, windowOpen := false, record := { s.vpl.record with usable := false },
    path := restoreNewest restore s.vpl.path }
  lockLoss (offer 0 (.link .search .mismatch (some fault) line s.vpl.width s.vpl.height) (s.withVpl v))

/-! ## Timing events (R11) -/

/-- An active end (R11): the composer (R159) and the table store (R86). -/
def activeEnd (s : State) : State := countActiveEnd (composerActiveEnd s)

/-- An active start (R11): while LOCKED the apply point, the blink step, the latch and the opening of the window (R12, R13,
R140, R143); otherwise the blink step alone. -/
def activeStart (s : State) : State :=
  let s0 := s.withVpl { s.vpl with awaitActive := false }
  if isLocked s then
    let s1 := takeLatch (blinkStep (applyPoint s0))
    s1.withVpl { s1.vpl with windowOpen := true }
  else blinkStep s0

/-! ## Lines (R5, R9) -/

/-- The line under way, if there is one, ends (R5); while LOCKED it is checked (R9), and its end may be the active end
(R11). -/
def closeLine (s : State) : State :=
  let n := s.vpl.run
  let line := s.vpl.record.lines
  if n = 0 then s
  else
    let s1 := s.withVpl { s.vpl with record := addLine n s.vpl.record, run := 0 }
    if !isLocked s then s1
    else if n < s.vpl.width then lockFault .width line n s1
    else if line + 1 = s.vpl.height then activeEnd s1
    else s1

/-- A VDE-high cycle at the lock machine: an active start, when this is the frame's first; the checks of R9; the count of
the line (R5). -/
def pixelCount (s : State) : State :=
  let s1 := if s.vpl.awaitActive then activeStart s else s
  let n := s1.vpl.run
  let line := s1.vpl.record.lines
  let s2 :=
    if isLocked s1 && n == 0 && line == s1.vpl.height then lockFault .excess line 0 s1
    else if isLocked s1 && n == s1.vpl.width then lockFault .width line n s1
    else s1
  s2.withVpl { s2.vpl with run := min (n + 1) Config.lineMax }

/-! ## Frames (R7 to R10) -/

/-- A frame is judged from SEARCH (R7). -/
def judgeSearch (s : State) : State :=
  let r := s.vpl.record
  if consistent r && withinLimits r then
    s.withVpl { s.vpl with lock := .confirm, candidate := some (r.firstLength, r.lines) }
  else s.withVpl { s.vpl with lock := .search, candidate := none }

/-- A frame is judged from CONFIRM (R8). -/
def judgeConfirm (s : State) : State :=
  let r := s.vpl.record
  if consistent r && s.vpl.candidate == some (r.firstLength, r.lines) then
    offer 0 (.link .locked .acquired none 0 r.firstLength r.lines)
      (s.withVpl { s.vpl with lock := .locked, candidate := none, width := r.firstLength, height := r.lines })
  else judgeSearch s

/-- The closing frame is judged (R7 to R10), its last line having ended; `was` is the lock state before that line's end. -/
def judgeFrameEnd (was : LockState) (s : State) : State :=
  match was with
  | .search => judgeSearch s
  | .confirm => judgeConfirm s
  | .locked =>
    if isLocked s && s.vpl.record.lines < s.vpl.height then lockFault .short s.vpl.record.lines 0 s else s
  | .lost => s.withVpl { s.vpl with lock := .search, candidate := none }

/-- The new frame begins: a fresh record, the silence timer restarted, the active start to come (R5, R10, R11, R13). -/
def beginFrame (s : State) : State :=
  s.withVpl { s.vpl with
    record := newRecord, run := 0, awaitActive := true, silence := .running Config.lockSilenceMs, windowOpen := false }

/-- A frame start (R7 to R11). -/
def frameStart (s : State) : State := beginFrame (judgeFrameEnd s.vpl.lock (closeLine s))

/-- The frame-start silence timer expires (R10). With the timer stopped nothing happens (log entry 6). -/
def lockSilence (s : State) : State :=
  match s.vpl.silence with
  | .stopped => s
  | .running _ =>
    let v := { s.vpl with
      lock := .lost, candidate := none, record := { s.vpl.record with usable := false }, silence := .stopped,
      windowOpen := false }
    let s1 := discardPartial (s.withVpl v)
    if isLocked s then lockLoss (offer 0 (.link .lost .silence none 0 s.vpl.width s.vpl.height) s1) else s1

/-! ## Input cycles (R1 to R4) -/

/-- The events a cycle raises at the VPL, while the reset pin is not asserted: a frame start on the leading edge of VVS, or
else the end of a line on the first VDE-low cycle; then a VDE-high cycle is counted, and one with VCX high sets LINK_ERR
(R4, R5, R11; log entry 3). -/
def cycleEvents (c : VideoIn) (s : State) : State :=
  let s1 :=
    if c.vvs && !s.vpl.prevVvs then frameStart s
    else if !c.vde then closeLine s
    else s
  let s2 := if c.vde then pixelCount s1 else s1
  if c.vde && c.vcx then setLinkErr s2 else s2

/-- The VD driven for a cycle, its events done (R2): the screen position is that of R11. -/
def outputVd (c : VideoIn) (s : State) : Rgb :=
  if c.vcx && !c.vde then 0
  else if c.vde && s.vpl.windowOpen then
    match answer s.ovc ((s.vpl.run : Int) - 1) s.vpl.record.lines with
    | .none => c.vd
    | .color v => v
    | .invert => ~~~c.vd
  else c.vd

/-- A cycle enters the delay path, and the cycle received 2,624 cycles before leaves it (R1). -/
def pushCycle (c : PathCycle) (v : Vpl) : Vpl :=
  if v.path.length < Config.pathDelay then { v with path := c :: v.path, prevVvs := c.vvs }
  else
    let oldest := v.path.getLastD c
    { v with path := c :: v.path.dropLast, out := ⟨oldest.outVd, oldest.vhs, oldest.vvs, oldest.vde⟩, prevVvs := c.vvs }

/-- The cycle with its output VD enters the path. -/
def passCycle (c : VideoIn) (s : State) : State :=
  s.withVpl (pushCycle ⟨c.vd, c.vhs, c.vvs, c.vde, outputVd c s⟩ s.vpl)

/-- An input cycle (R1 to R4): its events, its passage, and the control bytes it carries. While the reset pin is asserted
it only passes, with control bytes blanked and the window closed (R3, R6). -/
def videoCycle (c : VideoIn) (s : State) : State :=
  if s.resetAsserted then passCycle c s
  else
    let s1 := passCycle c (cycleEvents c s)
    if c.vcx && !c.vde then takeControlBytes (controlBytes c.vd) s1 else s1

/-! ## The commands of the video path -/

/-- CONTROL_BYTE_CYCLE (R3). -/
def execControlByteCycle (vd : Rgb) (vhs vvs : Bool) (s : State) : Host.Outcome State Fault Refusal :=
  .next (videoCycle ⟨vd, vhs, vvs, false, true⟩ s)

/-- VCX_IN_ACTIVE_VIDEO (R4). -/
def execVcxInActiveVideo (vd : Rgb) (vhs vvs : Bool) (s : State) : Host.Outcome State Fault Refusal :=
  .next (videoCycle ⟨vd, vhs, vvs, true, true⟩ s)

/-- PIXEL_CYCLE (R2). -/
def execPixelCycle (vd : Rgb) (vhs vvs : Bool) (s : State) : Host.Outcome State Fault Refusal :=
  .next (videoCycle ⟨vd, vhs, vvs, true, false⟩ s)

/-- LINE_END (R5). -/
def execLineEnd (vd : Rgb) (vhs vvs : Bool) (s : State) : Host.Outcome State Fault Refusal :=
  .next (videoCycle ⟨vd, vhs, vvs, false, false⟩ s)

/-- FRAME_START (R7). -/
def execFrameStart (vd : Rgb) (vhs vde vcx : Bool) (s : State) : Host.Outcome State Fault Refusal :=
  .next (videoCycle ⟨vd, vhs, true, vde, vcx⟩ s)

/-- LOCK_SILENCE_EXPIRY (R10). -/
def execLockSilenceExpiry (s : State) : Host.Outcome State Fault Refusal := whileRunning lockSilence s

end Sys2Proof.Machine
end

