-- ==== Sys2Proof/Machine/Reset.lean ====
section
/-! DEFINITION. Power-on and the reset pin (R180, with R6, R31, R66, R94, R116, R137, R162, R173). -/

namespace Sys2Proof.Machine

/-- The blocks when power-on completes with these straps; the queue of waiting commands is not the part's. -/
def poweredOn (straps : Straps) (s : State) : State :=
  { State.reset with ptu := resetPtu straps, rlt := resetRlt straps, pending := s.pending }

/-- What the assertion of the pin does at once (R3, R6, R16, R73, R79, R88, R89, R116, R173; log entry 14): the window
closes, the partial packet is discarded, the table store is emptied, the search is abandoned with its pin, the
transmission is cut. The video path goes on (R1). -/
def assertPin (s : State) : State :=
  { s with
    resetAsserted := true
    vpl := { s.vpl with windowOpen := false }
    pds := { s.pds with receive := .hunt }
    tbs := resetTbs
    sse := { s.sse with flight := none, rerun := false }
    rlt := { s.rlt with transmission := none } }

/-- The VPL at the release (R6): the delay path, its output and the last VVS level go on (R1, R11). -/
def releasedVpl (v : Vpl) : Vpl := { resetVpl with path := v.path, out := v.out, prevVvs := v.prevVvs }

/-- The blocks when the pin is released with these straps. -/
def releasePinState (straps : Straps) (s : State) : State :=
  { State.reset with
    vpl := releasedVpl s.vpl, ptu := resetPtu straps, rlt := { resetRlt straps with hold := s.rlt.hold },
    pending := s.pending }

/-- POWER_ON (R180). -/
def execPowerOn (straps : Straps) (s : State) : Host.Outcome State Fault Refusal := .next (poweredOn straps s)

/-- RESET_PIN_ASSERT (R180). -/
def execResetPinAssert (s : State) : Host.Outcome State Fault Refusal := .next (assertPin s)

/-- RESET_PIN_RELEASE (R180): a rising edge that ends no assertion has no effect. -/
def execResetPinRelease (straps : Straps) (s : State) : Host.Outcome State Fault Refusal :=
  .next (if s.resetAsserted then releasePinState straps s else s)

end Sys2Proof.Machine
end

