-- ==== Sys2Proof/Machine/Dispatch.lean ====
section
/-! DEFINITION. The dispatch: one arm per row of spec/opcode_table.json. -/

namespace Sys2Proof.Machine

def exec (i : Instr) (s : State) : Host.Outcome State Fault Refusal :=
  match i with
  | .powerOn straps => Sys2Proof.Machine.execPowerOn straps s
  | .resetPinAssert => Sys2Proof.Machine.execResetPinAssert s
  | .resetPinRelease straps => Sys2Proof.Machine.execResetPinRelease straps s
  | .controlByteCycle vd vhs vvs => Sys2Proof.Machine.execControlByteCycle vd vhs vvs s
  | .vcxInActiveVideo vd vhs vvs => Sys2Proof.Machine.execVcxInActiveVideo vd vhs vvs s
  | .pixelCycle vd vhs vvs => Sys2Proof.Machine.execPixelCycle vd vhs vvs s
  | .lineEnd vd vhs vvs => Sys2Proof.Machine.execLineEnd vd vhs vvs s
  | .frameStart vd vhs vde vcx => Sys2Proof.Machine.execFrameStart vd vhs vde vcx s
  | .lockSilenceExpiry => Sys2Proof.Machine.execLockSilenceExpiry s
  | .packetUnknownClass cls tag payload => Sys2Proof.Machine.execPacketUnknownClass cls tag payload s
  | .set tag payload => Sys2Proof.Machine.execSet tag payload s
  | .read tag payload => Sys2Proof.Machine.execRead tag payload s
  | .readIdentity tag => Sys2Proof.Machine.execReadIdentity tag s
  | .readStatus tag => Sys2Proof.Machine.execReadStatus tag s
  | .loadBegin tag payload => Sys2Proof.Machine.execLoadBegin tag payload s
  | .loadData tag payload => Sys2Proof.Machine.execLoadData tag payload s
  | .loadEnd tag payload => Sys2Proof.Machine.execLoadEnd tag payload s
  | .buildComplete bank => Sys2Proof.Machine.execBuildComplete bank s
  | .activate tag payload => Sys2Proof.Machine.execActivate tag payload s
  | .verify tag payload => Sys2Proof.Machine.execVerify tag payload s
  | .verifyIntervalExpiry => Sys2Proof.Machine.execVerifyIntervalExpiry s
  | .verifyComplete upset => Sys2Proof.Machine.execVerifyComplete upset s
  | .gesture tag payload => Sys2Proof.Machine.execGesture tag payload s
  | .commit tag payload => Sys2Proof.Machine.execCommit tag payload s
  | .endGesture tag payload => Sys2Proof.Machine.execEndGesture tag payload s
  | .cancel tag payload => Sys2Proof.Machine.execCancel tag payload s
  | .park tag slot => Sys2Proof.Machine.execPark tag slot s
  | .copy tag slot => Sys2Proof.Machine.execCopy tag slot s
  | .resume tag slot => Sys2Proof.Machine.execResume tag slot s
  | .discard tag slot => Sys2Proof.Machine.execDiscard tag slot s
  | .pointer tag payload => Sys2Proof.Machine.execPointer tag payload s
  | .sync tag payload => Sys2Proof.Machine.execSync tag payload s
  | .echo tag payload => Sys2Proof.Machine.execEcho tag payload s
  | .resetGesture tag => Sys2Proof.Machine.execResetGesture tag s
  | .resetTables tag => Sys2Proof.Machine.execResetTables tag s
  | .resetSettings tag => Sys2Proof.Machine.execResetSettings tag s
  | .resetAll tag => Sys2Proof.Machine.execResetAll tag s
  | .tabletByte b => Sys2Proof.Machine.execTabletByte b s
  | .tabletFramingError => Sys2Proof.Machine.execTabletFramingError s
  | .tabletFrame status x2 x1 x0 y2 y1 y0 check => Sys2Proof.Machine.execTabletFrame status x2 x1 x0 y2 y1 y0 check s
  | .tabletSilenceExpiry => Sys2Proof.Machine.execTabletSilenceExpiry s
  | .searchPublish => Sys2Proof.Machine.execSearchPublish s
  | .reportTxStart hold => Sys2Proof.Machine.execReportTxStart hold s
  | .reportTxEnd => Sys2Proof.Machine.execReportTxEnd s
  | .tabletLineReturnHigh => Sys2Proof.Machine.execTabletLineReturnHigh s

end Sys2Proof.Machine
end

