-- ==== Sys2Proof/WellFormed.lean ====
section
/-! DEFINITION. Which terms of `Instr` can be commands of the part. The checks are those of the wire: a payload holds at
most 240 bytes (R14), an unknown class is none of R176's codes, and only the first byte of a tablet frame has its high
bit set (R53). `exec` is total on ill-formed terms too. -/

namespace Sys2Proof

/-- The class codes of R176. -/
def classCodes : List Byte :=
  [0x01, 0x02, 0x10, 0x11, 0x12, 0x13, 0x14, 0x20, 0x21, 0x22, 0x23, 0x24, 0x30, 0x40, 0x41, 0x42]

/-- A payload fits the length byte's range (R14). -/
def payloadFits (payload : List Byte) : Bool := payload.length ≤ Config.payloadMax

/-- The command can be sent to the part as it stands. -/
def WellFormed : Instr → Bool
  | .powerOn _ | .resetPinAssert | .resetPinRelease _ => true
  | .controlByteCycle _ _ _ | .vcxInActiveVideo _ _ _ | .pixelCycle _ _ _ | .lineEnd _ _ _ => true
  | .frameStart _ _ _ _ | .lockSilenceExpiry => true
  | .packetUnknownClass cls _ payload => !classCodes.contains cls && payloadFits payload
  | .set _ payload | .read _ payload => payloadFits payload
  | .readIdentity _ | .readStatus _ => true
  | .loadBegin _ payload | .loadData _ payload | .loadEnd _ payload => payloadFits payload
  | .buildComplete _ => true
  | .activate _ payload | .verify _ payload => payloadFits payload
  | .verifyIntervalExpiry | .verifyComplete _ => true
  | .gesture _ payload | .commit _ payload | .endGesture _ payload | .cancel _ payload => payloadFits payload
  | .park _ _ | .copy _ _ | .resume _ _ | .discard _ _ => true
  | .pointer _ payload | .sync _ payload | .echo _ payload => payloadFits payload
  | .resetGesture _ | .resetTables _ | .resetSettings _ | .resetAll _ => true
  | .tabletByte _ | .tabletFramingError => true
  | .tabletFrame status x2 x1 x0 y2 y1 y0 check =>
    status.msb && [x2, x1, x0, y2, y1, y0, check].all fun b => !b.msb
  | .tabletSilenceExpiry | .searchPublish | .reportTxStart _ | .reportTxEnd | .tabletLineReturnHigh => true

end Sys2Proof
end

