-- ==== Sys2Proof/Safety.lean ====
section
/-! DEFINITION. The words the statements use: when commands act, room in the report queue, runs of commands, and the
invariants of the part (R22, R24, R33, R81, R83, R84, R118, R143, R166). -/

namespace Sys2Proof.Machine

/-! ## Conditions on the state -/

/-- The reset pin is not asserted, so that the blocks take events (R180). -/
abbrev Running (s : State) : Prop := s.resetAsserted = false

/-- The report queue has room for `n` more reports (R166). -/
abbrev Room (n : Nat) (s : State) : Prop := s.rlt.queue.length + n ≤ Config.queueMax

/-- The state with reports appended to its queue, and nothing else changed. -/
def State.queued (s : State) (reports : List Report) : State :=
  { s with rlt := { s.rlt with queue := s.rlt.queue ++ reports } }

/-- A report offered to a full queue is dropped: REPORT_OVERRUN and the overrun notice are set, and nothing else changes
(R166). -/
def State.dropped (s : State) : State :=
  { s with rlt := { s.rlt with overrun := true }, pds := { s.pds with reportOverrun := true } }

/-- The state after reports are offered one after the other, each taken by R166. -/
def State.offered (s : State) (reports : List Report) : State := reports.foldl (fun s r => offer r.tag r.body s) s

/-- In `t` the report queue, the overrun notice and REPORT_OVERRUN are as these reports, offered to `s`, leave them, and the
transmission, the rate and HOLD as in `s` (R166). -/
abbrev Offered (s t : State) (reports : List Report) : Prop :=
  t.rlt = (s.offered reports).rlt ∧ t.pds.reportOverrun = (s.offered reports).pds.reportOverrun

/-- Every value the reset tables of R6, R31, R66, R94, R116, R137, R162 and R173 give, with the line rates of these
straps (R52, R164). -/
abbrev BlocksReset (straps : Straps) (t : State) : Prop :=
  (t.vpl.lock = .search ∧ t.vpl.candidate = none ∧ t.vpl.width = 0 ∧ t.vpl.height = 0 ∧
    t.vpl.record = ⟨false, 0, true, 0⟩ ∧ t.vpl.silence = .running 100 ∧ t.vpl.windowOpen = false) ∧
  (t.pds.receive = .hunt ∧ (∀ g, groupCells t.pds.settings g = (groupSpecs g).map fun f => ⟨f.reset, none⟩) ∧
    t.pds.fence = [] ∧ t.pds.linkErr = false ∧ t.pds.tabletErr = false ∧ t.pds.reportOverrun = false) ∧
  (t.ptu.rate = tabletRateOf straps ∧ t.ptu.receiver = .hunt ∧ t.ptu.source = .tablet ∧ t.ptu.buttons = 0 ∧
    t.ptu.silence = .stopped ∧ t.ptu.sequence = 0 ∧ t.ptu.mailbox = ⟨indefinitePoint, false, 0⟩) ∧
  (∀ b, (bankOf t.tbs b).state = .empty ∧ (bankOf t.tbs b).entries = [] ∧ (bankOf t.tbs b).directory = [] ∧
    (bankOf t.tbs b).cellIndex = [] ∧ (bankOf t.tbs b).acceptedCrc = none ∧ (bankOf t.tbs b).fate = none) ∧
  (t.tbs.mark = none ∧ t.tbs.pin = none ∧ t.tbs.verify = none ∧ t.tbs.interval = 0 ∧ t.tbs.ghostStage.state = .idle ∧
    t.tbs.directionStage.state = .idle ∧ t.tbs.glyphStage.state = .idle ∧ t.tbs.ghosts = [] ∧ t.tbs.directions = [] ∧
    t.tbs.glyphs = builtinGlyphs ∧ t.tbs.snapDown = false) ∧
  (t.sse.flight = none ∧ t.sse.rerun = false ∧
    t.sse.published = ⟨0, indefinitePoint, indefinitePoint, .raw, none, false, false⟩) ∧
  (t.gcu = ⟨⟨.point, .idle, [], false, [], 0⟩, none, none, none, none⟩) ∧
  (t.ovc.latch.current = false ∧ t.ovc.latch.shown = ⟨0, indefinitePoint, indefinitePoint, .raw, none, false, false⟩ ∧
    t.ovc.latch.gestureState = .idle ∧ t.ovc.latch.gestureKind = .point ∧ t.ovc.latch.vertices = [] ∧
    t.ovc.latch.close = false ∧ t.ovc.latch.view = ⟨0, 0, 65536⟩ ∧
    t.ovc.latch.styleCursor = ⟨1, 0xFFFFFF, 0, 0, 1, 0⟩ ∧ t.ovc.latch.styleMarker = ⟨0, 0xFFFF00, 0, 0, 1, 0⟩ ∧
    t.ovc.latch.styleRubber = ⟨1, 0xFFFFFF, 0, 0, 1, 0⟩ ∧ t.ovc.latch.styleGhost = ⟨0, 0x808080, 0, 8, 4, 0⟩ ∧
    t.ovc.latch.cursorGlyph = 0 ∧ t.ovc.latch.crosshair = 0 ∧ t.ovc.latch.markers = [1, 2, 3, 5, 4, 7, 6, 16, 16] ∧
    t.ovc.latch.blinkOn = 16 ∧
    t.ovc.latch.width = 0 ∧ t.ovc.latch.height = 0 ∧ t.ovc.latch.ghosts = [] ∧ t.ovc.latch.glyphs = builtinGlyphs ∧
    t.ovc.display = [] ∧ t.ovc.frameOverrun = 0 ∧ t.ovc.linesOverrun = 0 ∧ t.ovc.phase = 0 ∧ t.ovc.restart = false ∧
    t.ovc.forcedOff = 0) ∧
  (t.rlt.rate = laneRateOf straps ∧ t.rlt.queue = [] ∧ t.rlt.transmission = none ∧ t.rlt.overrun = false ∧
    laneLevel t.rlt = true)

/-- No change waits for an apply point: no pending setting, no mark, nothing staged, no waiting SYNC (R12, R22, R29, R81,
R90). -/
abbrev NothingPending (t : State) : Prop :=
  settingsPending t.pds.settings = false ∧ t.tbs.mark = none ∧ t.tbs.ghostStage.state ≠ .staged ∧
  t.tbs.directionStage.state ≠ .staged ∧ t.tbs.glyphStage.state ≠ .staged ∧ t.pds.fence = []

/-- The pointer unit after a source-change notice under these settings: nothing when the source stays, and otherwise the
new source, a placement of the last point with proximity OUT, the buttons up and the timer stopped (R65). -/
abbrev sourceChanged (t : Settings) (p : Ptu) : Ptu :=
  if sourceField t = p.source then p
  else { p with
    source := sourceField t, mailbox := ⟨p.mailbox.point, false, p.sequence + 1⟩, sequence := p.sequence + 1,
    buttons := 0, silence := .stopped }

/-- A bank after the mark of `s` has taken effect: the marked bank ACTIVE, the bank ACTIVE before it READY (R81). -/
abbrev bankAfterMark (s : Tbs) (b : BankId) : Bank :=
  match s.mark with
  | none => bankOf s b
  | some m =>
    if m.target = some b then { bankOf s b with state := .active }
    else if activeBank s = some b then { bankOf s b with state := .ready }
    else bankOf s b

/-- The verify that a mark taking effect aborts (R81, R88). -/
def abortedVerify (t : Tbs) : Option VerifyJob :=
  if t.mark.isSome then t.verify.filter fun j => decide (activeBank t = some j.bank) else none

/-- A small target's staging record after an apply point (R90); the values it then holds in IDLE are log entry 28. -/
abbrev stageAfter {α : Type} (g : Staging α) : Staging α :=
  if g.state = .staged then ⟨.idle, 0, 0, 0xFFFF, [], 0, 0⟩ else g

/-- A small target's current table after an apply point at which its whole content is replaced (R90). -/
abbrev tableAfter {α : Type} (g : Staging α) (table : List α) : List α := if g.state = .staged then g.records else table

/-- Glyph `i` after an apply point: the staged one when the staged run holds it, else the one before (R90). -/
abbrev glyphAfter (stage : Staging GlyphRecord) (i : Nat) (g : Glyph) : Glyph :=
  if stage.state = .staged ∧ stage.firstGlyph ≤ i ∧ i < stage.firstGlyph + stage.records.length / 33 then
    glyphOfRecords ((stage.records.drop (33 * (i - stage.firstGlyph))).take 33)
  else g

/-- The COMMITTED report of a small target, when its content is staged (R90, R96). -/
def committedReport {α : Type} (target : Target) (g : Staging α) : List Report :=
  if g.state = .staged then [⟨g.loadTag, .table (some target) (.committed g.count)⟩] else []

/-- The reports of an apply point, in their order: the mark's ABORTED and ACTIVATED, COMMITTED for each staged table, and
SYNC_DONE for each waiting tag (R29, R81, R82, R90, R174). -/
def applyReports (s : State) : List Report :=
  ((abortedVerify s.tbs).toList.map fun j => ⟨j.tag, .table (some (bankTarget j.bank)) .aborted⟩) ++
  (s.tbs.mark.toList.map fun m => ⟨m.tag, .table (m.target.map bankTarget) .activated⟩) ++
  (committedReport .ghost s.tbs.ghostStage ++ committedReport .directions s.tbs.directionStage ++
    committedReport .glyph s.tbs.glyphStage) ++
  s.pds.fence.map fun tag => ⟨tag, .syncDone⟩

/-- An apply point raises a search request: for pending VIEW, TABLET or SNAP values, a mark, or a staged direction table
(R98). -/
abbrev applySearches (s : State) : Prop :=
  (groupPending s.pds.settings .view ∨ groupPending s.pds.settings .tablet ∨ groupPending s.pds.settings .snap) ∨
  s.tbs.mark ≠ none ∨ s.tbs.directionStage.state = .staged

/-- One search request has been taken, all other changes of the event made: a search has started on the values that now
stand, or the search in flight has its rerun marked (R83, R99, R100). -/
abbrev SearchAsked (s t : State) : Prop :=
  (s.sse.flight = none → t.tbs.pin = activeBank t.tbs ∧ ∃ p : Progress, p.count = 0 ∧ p.best = none ∧
    t.sse = ⟨some ⟨takeSnapshot t, p⟩, false, s.sse.published⟩) ∧
  (s.sse.flight ≠ none → t.tbs.pin = s.tbs.pin ∧ t.sse = { s.sse with rerun := true })

/-- Every change of `s` that waited for the apply point is current in `t`: pending settings, with the source and interval
notices; the mark; the staged tables; and one search request is taken for them (R12, R22, R23, R81, R90, R98). What did not
wait is as it was. -/
abbrev ChangesCurrent (s t : State) : Prop :=
  (∀ g, groupCells t.pds.settings g =
    (groupCells s.pds.settings g).map fun c => ⟨c.pending.getD c.current, none⟩) ∧
  t.ptu = (if fieldPending s.pds.settings .tablet 5 then sourceChanged t.pds.settings s.ptu else s.ptu) ∧
  t.tbs.interval = (if fieldPending s.pds.settings .reports 1 then 0 else s.tbs.interval) ∧
  (∀ b, bankOf t.tbs b = bankAfterMark s.tbs b) ∧
  t.tbs.snapDown = (if s.tbs.mark = none then s.tbs.snapDown else false) ∧
  t.tbs.verify = (if abortedVerify s.tbs = none then s.tbs.verify else none) ∧
  t.tbs.ghosts = tableAfter s.tbs.ghostStage s.tbs.ghosts ∧
  t.tbs.directions = tableAfter s.tbs.directionStage s.tbs.directions ∧
  t.tbs.glyphs.length = s.tbs.glyphs.length ∧
  (∀ i g, s.tbs.glyphs[i]? = some g → t.tbs.glyphs[i]? = some (glyphAfter s.tbs.glyphStage i g)) ∧
  t.tbs.ghostStage = stageAfter s.tbs.ghostStage ∧ t.tbs.directionStage = stageAfter s.tbs.directionStage ∧
  t.tbs.glyphStage = stageAfter s.tbs.glyphStage ∧
  (applySearches s → SearchAsked s t) ∧ (¬applySearches s → t.sse = s.sse ∧ t.tbs.pin = s.tbs.pin) ∧
  t.gcu = s.gcu

/-- The lock machine has left LOCKED for state `lock`: no candidate, W and H kept, the window closed, every waiting change
current and nothing pending, the blink period's notice given, the composer's list discarded and its flag clear, and the LINK
report ahead of the apply point's reports (R9, R10, R12, R82, R143, R160). -/
abbrev LockLost (lock : LockState) (cause : LinkCause) (fault : Option LockFault) (line : Nat) (s t : State) : Prop :=
  let link : Report := ⟨0, .link lock cause fault line s.vpl.width s.vpl.height⟩
  t.vpl.lock = lock ∧ t.vpl.candidate = none ∧ t.vpl.width = s.vpl.width ∧ t.vpl.height = s.vpl.height ∧
  t.vpl.windowOpen = false ∧ NothingPending t ∧ ChangesCurrent s t ∧
  t.ovc = { s.ovc with
    display := [], latch := { s.ovc.latch with current := false }, frameOverrun := 0,
    phase := if fieldPending s.pds.settings .blink 0 then 0 else s.ovc.phase,
    restart := fieldPending s.pds.settings .blink 0 || s.ovc.restart } ∧
  (Room 1 s → ∃ more, t.rlt.queue = s.rlt.queue ++ link :: more) ∧
  Offered s t (link :: applyReports s)

/-- The levels VHS, VVS and VDE of an input cycle; none for a command that is no input cycle (section 1.1). -/
def videoLevels : Instr → Option (Bool × Bool × Bool)
  | .controlByteCycle _ vhs vvs => some (vhs, vvs, false)
  | .vcxInActiveVideo _ vhs vvs => some (vhs, vvs, true)
  | .pixelCycle _ vhs vvs => some (vhs, vvs, true)
  | .lineEnd _ vhs vvs => some (vhs, vvs, false)
  | .frameStart _ vhs vde _ => some (vhs, true, vde)
  | _ => none

/-- The command is an input cycle. -/
abbrev isVideo (i : Instr) : Bool := (videoLevels i).isSome

/-- The command is power-on or an edge of the reset pin. -/
def isPowerOrPin : Instr → Bool
  | .powerOn _ => true
  | .resetPinAssert => true
  | .resetPinRelease _ => true
  | _ => false

/-- The state after a run of commands, each taken in turn; none where one does not give a next state. -/
def runCommands : List Instr → State → Option State
  | [], s => some s
  | c :: rest, s =>
    match exec c s with
    | .next t => runCommands rest t
    | .fault _ => none
    | .refused _ => none

/-! ## Invariants -/

/-- The queue holds at most 16 reports, of which at most one is a TRACK (R166). -/
abbrev ReportQueueOk (s : State) : Prop :=
  s.rlt.queue.length ≤ 16 ∧ (s.rlt.queue.filter isTrack).length ≤ 1

/-- What R118, R119 and R126 say of a gesture context. -/
abbrev ContextOk (g : Gesture) : Prop :=
  (g.state = .idle → g.vertices = [] ∧ g.close = false ∧ g.exclusions = []) ∧
  (g.state = .armed → g.vertices = []) ∧
  (g.state = .tracking → 1 ≤ g.vertices.length ∧ g.kind ≠ .point ∧ (g.kind ≠ .chain → g.vertices.length = 1)) ∧
  g.vertices.length ≤ 16 ∧
  (g.close = true → g.kind = .chain) ∧
  g.exclusions.length ≤ 8 ∧
  (∀ v ∈ g.vertices, pointValid v = true) ∧
  (∀ e ∈ g.vertices.zip (g.vertices.drop 1), samePoint e.1 e.2 = false)

/-- A slot is EMPTY, or holds a context in ARMED or TRACKING (R132). -/
abbrev SlotOk (c : Option Gesture) : Prop := ∀ g ∈ c, ContextOk g ∧ g.state ≠ .idle

/-- The live gesture and the slots are as R118 and R132 say. -/
abbrev GesturesOk (s : State) : Prop :=
  ContextOk s.gcu.live ∧ ∀ i : Fin 4, SlotOk (slotOf s.gcu i)

/-- What R84 says of a bank's fate: it is held only in READY, and only while the bank is pinned. -/
abbrev FateOk (t : Tbs) (b : BankId) : Prop :=
  (bankOf t b).fate ≠ none → (bankOf t b).state = .ready ∧ t.pin = some b

/-- A pinned bank is ACTIVE or READY (R83). -/
abbrev PinOk (t : Tbs) (b : BankId) : Prop :=
  t.pin = some b → (bankOf t b).state = .active ∨ (bankOf t b).state = .ready

/-- A marked bank is READY and carries no fate (R81). -/
abbrev MarkOk (t : Tbs) (b : BankId) : Prop :=
  t.mark.map Mark.target = some (some b) → (bankOf t b).state = .ready ∧ (bankOf t b).fate = none

/-- A verify runs only on the ACTIVE bank (R85, R88). -/
abbrev VerifyOk (t : Tbs) (b : BankId) : Prop :=
  t.verify.map VerifyJob.bank = some b → (bankOf t b).state = .active

/-- At most one bank is ACTIVE; marks, fates, the pin and the verify name banks in the states the rules give (R81, R83,
R84, R88); the pin is that of the search in flight (R83). -/
abbrev TablesOk (s : State) : Prop :=
  ¬(s.tbs.bank0.state = .active ∧ s.tbs.bank1.state = .active) ∧
  (FateOk s.tbs .snap0 ∧ FateOk s.tbs .snap1) ∧
  (PinOk s.tbs .snap0 ∧ PinOk s.tbs .snap1) ∧
  (MarkOk s.tbs .snap0 ∧ MarkOk s.tbs .snap1) ∧
  (VerifyOk s.tbs .snap0 ∧ VerifyOk s.tbs .snap1) ∧
  s.tbs.pin = s.sse.flight.bind fun f => f.snapshot.bank

/-- R33's law for one coordinate: within ±8,388,607, or the INDEFINITE code carrying class INDEFINITE. -/
abbrev CoordOk (c : Coord) : Prop :=
  (c.cls ≠ .indefinite ∧ -8388607 ≤ c.value ∧ c.value ≤ 8388607) ∨ (c.cls = .indefinite ∧ c.value = -8388608)

abbrev PointOk (p : Point) : Prop := CoordOk p.x ∧ CoordOk p.y

abbrev ResultOk (r : ResultRecord) : Prop := PointOk r.raw ∧ PointOk r.point

abbrev VerticesOk (g : Gesture) : Prop := ∀ v ∈ g.vertices, PointOk v

/-- The sample and the anchor a search works from. -/
abbrev FlightOk (f : Flight) : Prop := PointOk f.snapshot.sample.point ∧ ∀ a ∈ f.snapshot.anchor, PointOk a

/-- R33's law over the mailbox sample, the published and the latched result, the snapshot of the search in flight, and the
vertices of the live gesture and of the slots. -/
abbrev CoordinatesOk (s : State) : Prop :=
  PointOk s.ptu.mailbox.point ∧ ResultOk s.sse.published ∧ ResultOk s.ovc.latch.shown ∧
  (∀ f ∈ s.sse.flight, FlightOk f) ∧
  VerticesOk s.gcu.live ∧ ∀ i : Fin 4, ∀ g ∈ slotOf s.gcu i, VerticesOk g

/-- A run of values lies in the ranges of R19: each in its own range, and a dependent field under its controlling one. -/
abbrev ValuesOk (g : Group) (values : List Int) : Prop :=
  values.length = (groupSpecs g).length ∧
  (∀ e ∈ values.zip (groupSpecs g), e.2.lo ≤ e.1 ∧ e.1 ≤ e.2.hi) ∧
  (∀ d ∈ dependence g, values.getD d.2 0 ≤ dependentMax g (values.getD d.1 0))

/-- The current values of a group are in range, and so are the values it will hold once its pending ones are current. -/
abbrev GroupOk (t : Settings) (g : Group) : Prop :=
  ValuesOk g ((groupCells t g).map FieldCell.current) ∧ ValuesOk g (workingCopy (groupCells t g))

/-- Every setting is in range (R19, R21), no value is pending while the lock machine is not LOCKED (R22, R24), and the blink
phase is less than the blink period (R143). -/
abbrev SettingsOk (s : State) : Prop :=
  (∀ g ∈ allGroups, GroupOk s.pds.settings g) ∧
  (s.vpl.lock ≠ .locked → settingsPending s.pds.settings = false) ∧
  s.ovc.phase < blinkPeriod s.pds.settings

/-- The delay path holds at most 2,624 cycles (R1). -/
abbrev PathOk (s : State) : Prop := s.vpl.path.length ≤ 2624

end Sys2Proof.Machine
end

