-- ==== Sys2Proof/Certificates/Slice0/Obligations.lean ====
section
/-! DEFINITION. The statements put to the provers. A statement's title, words and citations stand in OBLIGATIONS.json; each
is about every state and every operand that meets its hypotheses. -/

open Sys2Proof Sys2Proof.Machine

/-! ## Steps and resets -/

/-- The model's step (log entry 2): the command at the front of the queue is executed on the state with the queue's
rest; an empty queue idles; and no command stops the part. -/
def Obligations.StepTakesTheFrontCommand : Prop :=
  (∀ (c : Instr) (rest : List Instr) (s : State), s.pending = c :: rest → step s = exec c { s with pending := rest }) ∧
  (∀ s : State, s.pending = [] → step s = .next s) ∧
  (∀ (c : Instr) (s : State), ∃ t, exec c s = .next t)

/-- `State.reset` holds the values of the reset tables; the straps low are the model's choice (log entry 1), and so are
the levels before the first cycle (log entry 4). -/
def Obligations.ResetStateHoldsTheResetValues : Prop :=
  BlocksReset ⟨false, false, false, false⟩ State.reset ∧ State.reset.resetAsserted = false ∧
  State.reset.vpl.path = [] ∧ State.reset.vpl.out = ⟨0, false, false, false⟩ ∧ State.reset.pending = []

/-- POWER_ON and RESET_PIN_RELEASE leave every block with its reset values and the rates of the straps; the pin's release
keeps the video path running (R1). The empty delay path after power-on is the model's choice (log entry 24). -/
def Obligations.PowerOnAndReleaseLeaveTheResetValues : Prop :=
  (∀ (straps : Straps) (s : State), ∃ t, exec (.powerOn straps) s = .next t ∧ BlocksReset straps t ∧
    t.resetAsserted = false ∧ t.vpl.path = [] ∧ t.vpl.out = ⟨0, false, false, false⟩ ∧ t.pending = s.pending) ∧
  (∀ (straps : Straps) (s : State), s.resetAsserted = true →
    ∃ t, exec (.resetPinRelease straps) s = .next t ∧ BlocksReset straps t ∧ t.resetAsserted = false ∧
      t.vpl.path = s.vpl.path ∧ t.vpl.out = s.vpl.out ∧ t.pending = s.pending)

/-- RESET_PIN_ASSERT abandons what is under way: the search with its pin, builds, verifies and the open loads of all five
targets with the bank contents and staged records (R73), the partial packet, the transmission, whose lane is driven high;
the window closes and the delay path goes on. What falls at the assertion and what at the release is log entry 14. -/
def Obligations.PinAssertionCutsWorkShort : Prop :=
  ∀ s : State, ∃ t, exec .resetPinAssert s = .next t ∧ t.resetAsserted = true ∧
    t.sse.flight = none ∧ t.sse.rerun = false ∧ t.sse.published = s.sse.published ∧
    t.tbs.pin = none ∧ t.tbs.verify = none ∧ t.tbs.mark = none ∧ t.tbs.snapDown = false ∧
    (∀ b, (bankOf t.tbs b).state = .empty ∧ (bankOf t.tbs b).entries = []) ∧
    t.tbs.ghostStage.state = .idle ∧ t.tbs.directionStage.state = .idle ∧ t.tbs.glyphStage.state = .idle ∧
    t.tbs.ghostStage.records = [] ∧ t.tbs.directionStage.records = [] ∧ t.tbs.glyphStage.records = [] ∧
    t.pds.receive = .hunt ∧ t.rlt.transmission = none ∧ laneLevel t.rlt = true ∧ t.vpl.windowOpen = false ∧
    t.vpl.path = s.vpl.path ∧ t.vpl.out = s.vpl.out ∧ t.vpl.prevVvs = s.vpl.prevVvs ∧ t.pending = s.pending

/-- While the pin is asserted, no command but an input cycle or an edge of power or pin changes anything, and an input
cycle only passes: control bytes blanked and not taken, pixels as they came, no frame start judged, no LINK_ERR set. -/
def Obligations.AssertedPinHoldsEveryBlock : Prop :=
  (∀ (c : Instr) (s : State), s.resetAsserted = true → isVideo c = false → isPowerOrPin c = false →
    exec c s = .next s) ∧
  (∀ (vd : Rgb) (vhs vvs : Bool) (s : State), s.resetAsserted = true → s.vpl.windowOpen = false →
    exec (.controlByteCycle vd vhs vvs) s = .next { s with vpl := pushCycle ⟨vd, vhs, vvs, false, 0⟩ s.vpl } ∧
    exec (.pixelCycle vd vhs vvs) s = .next { s with vpl := pushCycle ⟨vd, vhs, vvs, true, vd⟩ s.vpl } ∧
    exec (.vcxInActiveVideo vd vhs vvs) s = .next { s with vpl := pushCycle ⟨vd, vhs, vvs, true, vd⟩ s.vpl } ∧
    exec (.lineEnd vd vhs vvs) s = .next { s with vpl := pushCycle ⟨vd, vhs, vvs, false, vd⟩ s.vpl } ∧
    ∀ vde vcx, exec (.frameStart vd vhs vde vcx) s =
      .next { s with vpl := pushCycle ⟨vd, vhs, true, vde, if vcx && !vde then 0 else vd⟩ s.vpl })

/-! ## Video path and stream lock -/

/-- A control-byte cycle (R3, R14): in every state, the pin asserted or not, it enters the delay path with output data
0; with no leading edge of VVS its three bytes go to the decoder in order, and nothing else happens but that it ends a
line under way as LINE_END does, before its bytes are taken (R5, R9, R11; that order is log entry 12). -/
def Obligations.ControlByteCycleHandsOnThreeBytes : Prop :=
  ∀ (vd : Rgb) (vhs vvs : Bool) (s : State),
    (∃ t, exec (.controlByteCycle vd vhs vvs) s = .next t ∧ t.vpl.path.head? = some ⟨vd, vhs, vvs, false, 0⟩) ∧
    (Running s → s.vpl.run = 0 → (vvs = true → s.vpl.prevVvs = true) →
      exec (.controlByteCycle vd vhs vvs) s =
        .next (takeControlByte (vd.extractLsb' 0 8) (takeControlByte (vd.extractLsb' 8 8) (takeControlByte
          (vd.extractLsb' 16 8) { s with vpl := pushCycle ⟨vd, vhs, vvs, false, 0⟩ s.vpl })))) ∧
    (Running s → 0 < s.vpl.run → (vvs = true → s.vpl.prevVvs = true) →
      ∃ u : State, u.vpl.run = 0 ∧
        exec (.lineEnd vd vhs vvs) s = .next { u with vpl := pushCycle ⟨vd, vhs, vvs, false, vd⟩ u.vpl } ∧
        exec (.controlByteCycle vd vhs vvs) s =
          .next (takeControlByte (vd.extractLsb' 0 8) (takeControlByte (vd.extractLsb' 8 8) (takeControlByte
            (vd.extractLsb' 16 8) { u with vpl := pushCycle ⟨vd, vhs, vvs, false, 0⟩ u.vpl }))))

/-- A pixel that raises no event of the frame (R2, R5): counted toward its line, up to 4,095, and driven as the input VD
outside the overlay window, or as the composer answers for its screen position inside it. A cycle with VCX high too is a
pixel cycle in every respect, in every state, and sets LINK_ERR (R4). -/
def Obligations.PixelCycleIsCountedAndAnswered : Prop :=
  ∀ (vd : Rgb) (vhs vvs : Bool) (s : State), Running s →
    (∃ t, exec (.pixelCycle vd vhs vvs) s = .next t ∧
      exec (.vcxInActiveVideo vd vhs vvs) s = .next { t with pds := { t.pds with linkErr := true } }) ∧
    ((vvs = true → s.vpl.prevVvs = true) → s.vpl.awaitActive = false →
      (s.vpl.lock ≠ .locked → s.vpl.windowOpen = false →
        exec (.pixelCycle vd vhs vvs) s =
          .next { s with vpl := { pushCycle ⟨vd, vhs, vvs, true, vd⟩ s.vpl with run := min (s.vpl.run + 1) 4095 } }) ∧
      (s.vpl.lock = .locked → s.vpl.windowOpen = true → s.vpl.run < 4095 → s.vpl.run ≠ s.vpl.width →
        (s.vpl.run = 0 → s.vpl.record.lines ≠ s.vpl.height) →
        exec (.pixelCycle vd vhs vvs) s =
          .next { s with vpl := { pushCycle ⟨vd, vhs, vvs, true,
              match answer s.ovc s.vpl.run s.vpl.record.lines with
              | .none => vd
              | .color c => c
              | .invert => ~~~vd⟩ s.vpl with run := s.vpl.run + 1 } }))

/-- The first VDE-low cycle after a run of VDE-high cycles ends the line, and a later one only passes. Outside LOCKED,
and in LOCKED at the right width short of the last line, the line enters the frame measurement record and nothing else
happens; in LOCKED at the right width on the last line it is also the active end (R86, R159). That the cycle itself
returns the interval counter to 0 and starts the verify is log entry 11. -/
def Obligations.LineEndMeasuresTheLine : Prop :=
  ∀ (vd : Rgb) (vhs vvs : Bool) (s : State), Running s → (vvs = true → s.vpl.prevVvs = true) →
    let r := s.vpl.record
    let passed : Vpl := pushCycle ⟨vd, vhs, vvs, false, vd⟩ s.vpl
    let ended : State := { s with vpl := { passed with
      run := 0,
      record := ⟨r.usable, if r.lines = 0 then s.vpl.run else r.firstLength,
        if r.lines = 0 then r.uniform else r.uniform && s.vpl.run == r.firstLength, min (r.lines + 1) 4095⟩ } }
    let interval := verifyInterval s.pds.settings
    (s.vpl.run = 0 → exec (.lineEnd vd vhs vvs) s = .next { s with vpl := passed }) ∧
    (0 < s.vpl.run → s.vpl.lock ≠ .locked → exec (.lineEnd vd vhs vvs) s = .next ended) ∧
    (0 < s.vpl.run → s.vpl.lock = .locked → s.vpl.run = s.vpl.width → r.lines + 1 ≠ s.vpl.height →
      exec (.lineEnd vd vhs vvs) s = .next ended) ∧
    (0 < s.vpl.run → s.vpl.lock = .locked → s.vpl.run = s.vpl.width → r.lines + 1 = s.vpl.height →
      ∃ t, exec (.lineEnd vd vhs vvs) s = .next t ∧
        t = { ended with ovc := { s.ovc with linesOverrun := s.ovc.frameOverrun }, tbs := t.tbs } ∧
        (interval = 0 → t.tbs = { s.tbs with interval := 0 }) ∧
        (s.tbs.interval + 1 < interval → t.tbs = { s.tbs with interval := s.tbs.interval + 1 }) ∧
        (interval ≠ 0 → interval ≤ s.tbs.interval + 1 →
          (∀ b, activeBank s.tbs = some b → s.tbs.verify = none →
            t.tbs = { s.tbs with interval := 0, verify := some ⟨b, 0, 0xFFFF, 0⟩ }) ∧
          (activeBank s.tbs = none ∨ s.tbs.verify ≠ none → t.tbs = { s.tbs with interval := 0 })))

/-- The three lock faults: a short line at its end, or at a frame start that cuts it (log entry 3), a long line at its
(W+1)th pixel, an extra line at its first pixel, a short frame, with no active line or with some, at the frame start.
Each leaves LOCKED as R9, R12, R13 and R160 say, every waiting change becoming current (the values a staging record then
holds in IDLE are log entry 28, the discarded frame overrun count's 0 is log entry 31); after a WIDTH fault every pixel
of the line leaves as its input value. -/
def Obligations.LockFaultsEndTheLock : Prop :=
  ∀ (vd : Rgb) (vhs vvs : Bool) (s : State), Running s → s.vpl.lock = .locked →
    ((vvs = true → s.vpl.prevVvs = true) → 0 < s.vpl.run → s.vpl.run < s.vpl.width →
      ∃ t, exec (.lineEnd vd vhs vvs) s = .next t ∧
        LockLost .search .mismatch (some .width) s.vpl.record.lines s t ∧ t.vpl.record.usable = false ∧
        ∀ c ∈ t.vpl.path.take (s.vpl.run + 1), c.outVd = c.vd) ∧
    ((vvs = true → s.vpl.prevVvs = true) → s.vpl.awaitActive = false → 0 < s.vpl.run → s.vpl.run = s.vpl.width →
      ∃ t, exec (.pixelCycle vd vhs vvs) s = .next t ∧
        LockLost .search .mismatch (some .width) s.vpl.record.lines s t ∧ t.vpl.record.usable = false ∧
        ∀ c ∈ t.vpl.path.take (s.vpl.run + 1), c.outVd = c.vd) ∧
    ((vvs = true → s.vpl.prevVvs = true) → s.vpl.awaitActive = false → s.vpl.run = 0 →
      s.vpl.record.lines = s.vpl.height →
      ∃ t, exec (.pixelCycle vd vhs vvs) s = .next t ∧
        LockLost .search .mismatch (some .excess) s.vpl.height s t ∧ t.vpl.record.usable = false) ∧
    (s.vpl.prevVvs = false → s.vpl.run = 0 → s.vpl.record.lines < s.vpl.height →
      ∃ t, exec (.frameStart vd vhs false false) s = .next t ∧
        LockLost .search .mismatch (some .short) s.vpl.record.lines s t ∧ t.vpl.record = ⟨true, 0, true, 0⟩) ∧
    (s.vpl.prevVvs = false → 0 < s.vpl.run → s.vpl.run < s.vpl.width →
      ∃ t, exec (.frameStart vd vhs false false) s = .next t ∧
        LockLost .search .mismatch (some .width) s.vpl.record.lines s t ∧ t.vpl.record = ⟨true, 0, true, 0⟩ ∧
        ∀ c ∈ t.vpl.path.take (s.vpl.run + 1), c.outVd = c.vd)

/-- A leading edge of VVS judges the closing frame and begins a new one, and then the cycle is what its VDE and VCX make
it. With no line under way: from SEARCH by the limits, from CONFIRM against the candidate, not at all from LOST; H lines
keep LOCKED, fewer lose it. A line under way ends first. In each case the new frame's record is usable and fresh, the
silence timer is restarted, and the active start is awaited with the window closed. The rows that carry VVS raise the
same frame start. The order on one cycle, and which cycle each row is, are log entry 3; the values of a staging record
that a lock loss leaves IDLE are log entry 28, the discarded frame overrun count's 0 is log entry 31. -/
def Obligations.FrameStartJudgesTheClosingFrame : Prop :=
  ∀ (vd : Rgb) (vhs : Bool) (s : State),
    (exec (.lineEnd vd vhs true) s = exec (.frameStart vd vhs false false) s ∧
      exec (.pixelCycle vd vhs true) s = exec (.frameStart vd vhs true false) s ∧
      exec (.controlByteCycle vd vhs true) s = exec (.frameStart vd vhs false true) s ∧
      exec (.vcxInActiveVideo vd vhs true) s = exec (.frameStart vd vhs true true) s) ∧
    (Running s → s.vpl.prevVvs = false →
      let cycle (vde vcx : Bool) (u : State) : Host.Outcome State Fault Refusal := match vde, vcx with
        | false, false => .next { u with vpl := pushCycle ⟨vd, vhs, true, false, vd⟩ u.vpl }
        | true, false => exec (.pixelCycle vd vhs true) u
        | false, true => exec (.controlByteCycle vd vhs true) u
        | true, true => exec (.vcxInActiveVideo vd vhs true) u
      let after (lock : LockState) (candidate : Option (Nat × Nat)) (w h : Nat) : State :=
        { s with vpl := { s.vpl with
          lock := lock, candidate := candidate, width := w, height := h, record := ⟨true, 0, true, 0⟩, run := 0,
          awaitActive := true, silence := .running 100, windowOpen := false, prevVvs := true } }
      let r := s.vpl.record
      let measured : Prop := r.usable = true ∧ r.uniform = true ∧ 1 ≤ r.lines
      let good : Prop := measured ∧ 320 ≤ r.firstLength ∧ r.firstLength ≤ 2560 ∧ 240 ≤ r.lines ∧ r.lines ≤ 2048
      ∃ u : State, (∀ vde vcx, exec (.frameStart vd vhs vde vcx) s = cycle vde vcx u) ∧
        u.vpl.record = ⟨true, 0, true, 0⟩ ∧ u.vpl.run = 0 ∧ u.vpl.awaitActive = true ∧ u.vpl.silence = .running 100 ∧
        u.vpl.windowOpen = false ∧ u.vpl.prevVvs = true ∧
        (s.vpl.run = 0 →
          (s.vpl.lock = .search ∨
              s.vpl.lock = .confirm ∧ ¬(measured ∧ s.vpl.candidate = some (r.firstLength, r.lines)) →
            (good → u = after .confirm (some (r.firstLength, r.lines)) s.vpl.width s.vpl.height) ∧
            (¬good → u = after .search none s.vpl.width s.vpl.height)) ∧
          (s.vpl.lock = .confirm → measured → s.vpl.candidate = some (r.firstLength, r.lines) →
            u = offer 0 (.link .locked .acquired none 0 r.firstLength r.lines)
              (after .locked none r.firstLength r.lines)) ∧
          (s.vpl.lock = .locked → r.lines = s.vpl.height →
            u = after .locked s.vpl.candidate s.vpl.width s.vpl.height) ∧
          (s.vpl.lock = .locked → r.lines < s.vpl.height →
            LockLost .search .mismatch (some .short) r.lines s u) ∧
          (s.vpl.lock = .lost → u = after .search none s.vpl.width s.vpl.height)) ∧
        (0 < s.vpl.run → (s.vpl.lock = .locked → s.vpl.run = s.vpl.width) →
          ∃ v, exec (.lineEnd vd vhs false) s = .next v ∧ ∀ vde vcx, exec (.frameStart vd vhs vde vcx) s =
            exec (.frameStart vd vhs vde vcx)
              { v with vpl := { v.vpl with path := s.vpl.path, out := s.vpl.out, prevVvs := false } }) ∧
        (0 < s.vpl.run → s.vpl.lock = .locked → s.vpl.run < s.vpl.width →
          LockLost .search .mismatch (some .width) r.lines s u))

/-- The expiry of the frame-start silence timer: LOST, no candidate, an unusable record, the partial packet discarded;
from LOCKED also the lock loss with its LINK report (the values of a staging record it leaves IDLE are log entry 28, the
discarded frame overrun count's 0 is log entry 31). -/
def Obligations.LockSilenceEntersLost : Prop :=
  ∀ (s : State) (ms : Nat), Running s → s.vpl.silence = .running ms →
    (s.vpl.lock = .search ∨ s.vpl.lock = .confirm →
      exec .lockSilenceExpiry s = .next { s with
        vpl := { s.vpl with
          lock := .lost, candidate := none, record := { s.vpl.record with usable := false }, silence := .stopped,
          windowOpen := false },
        pds := { s.pds with receive := .hunt } }) ∧
    (s.vpl.lock = .locked →
      ∃ t, exec .lockSilenceExpiry s = .next t ∧ LockLost .lost .silence none 0 s t ∧
        t.vpl.record.usable = false ∧ t.vpl.silence = .stopped ∧ t.pds.receive = .hunt ∧ t.vpl.path = s.vpl.path)

/-- The delay of R1: after any input cycle and 2,624 further input cycles of any kinds, the output carries that cycle's
VHS, VVS and VDE. Each input cycle moves the cycles held in the delay path on by one, with their levels and their input VD;
the oldest of a full path leaves on the output pins, OD carrying the VD settled for it (R2). That VD is the one it had, but
for the cycles of a line whose WIDTH fault this cycle raises: theirs becomes the input VD (R13). -/
def Obligations.OutputFollowsInputBy2624Cycles : Prop :=
  ∀ (c : Instr) (cs : List Instr) (s : State) (vhs vvs vde : Bool), PathOk s → videoLevels c = some (vhs, vvs, vde) →
    cs.length = 2624 → (∀ d ∈ cs, isVideo d = true) →
    (∃ t, runCommands (c :: cs) s = some t ∧ t.vpl.out.vhs = vhs ∧ t.vpl.out.vvs = vvs ∧ t.vpl.out.vde = vde) ∧
    (∃ t, exec c s = .next t ∧ ∃ (entered : PathCycle) (kept : List PathCycle),
      entered.vhs = vhs ∧ entered.vvs = vvs ∧ entered.vde = vde ∧ kept.length = s.vpl.path.length ∧
      (∀ i p q, s.vpl.path[i]? = some p → kept[i]? = some q →
        q = p ∨ q = { p with outVd := p.vd } ∧ i < s.vpl.run ∧ s.vpl.lock = .locked ∧ t.vpl.lock ≠ .locked) ∧
      (s.vpl.path.length < 2624 → t.vpl.path = entered :: kept ∧ t.vpl.out = s.vpl.out) ∧
      (∀ rest oldest, s.vpl.path.length = 2624 → kept = rest ++ [oldest] →
        t.vpl.path = entered :: rest ∧ t.vpl.out = ⟨oldest.outVd, oldest.vhs, oldest.vvs, oldest.vde⟩))

/-- Packets, tablet events, completions and the return lane leave the video path unit as it is: lock, W, H, the record,
the window, the delay path and its output. -/
def Obligations.OnlyVideoEventsChangeTheVideoPath : Prop :=
  ∀ (c : Instr) (s t : State), isVideo c = false → isPowerOrPin c = false → c ≠ .lockSilenceExpiry →
    exec c s = .next t → t.vpl = s.vpl

/-! ## Packets and settings -/

/-- From HUNT: idle fill is discarded; a packet's bytes, whatever their values, are taken by the packet's owner when
their sum is 0, and give the ERROR with cause CHECK, no class and tag 0, when it is not; a length above 240 gives that
ERROR too (its class and tag bytes: log entry 25). Taking a packet of a class code is what the packet's row does; a
CONTEXT byte names its operation in bits 3:2 and its slot in bits 1:0; a RESET byte names its scope, and one of 4 or
more is refused with FIELD (the two ways a packet comes: log entry 9). -/
def Obligations.PacketBytesReachTheirOwner : Prop :=
  ∀ (s : State),
    (s.pds.receive = .hunt →
      (∀ n : Nat, takeControlBytes (List.replicate n 0) s = s) ∧
      (∀ (b : Byte), b ≠ 0xB6 → takeControlByte b s = s) ∧
      (∀ (cls tag check : Byte) (payload : List Byte), payload.length ≤ 240 →
        (cls + BitVec.ofNat 8 payload.length + tag + payload.foldl (· + ·) 0 + check = 0 →
          takeControlBytes (0xB6 :: cls :: BitVec.ofNat 8 payload.length :: tag :: (payload ++ [check])) s =
            takePacket cls tag payload s) ∧
        (cls + BitVec.ofNat 8 payload.length + tag + payload.foldl (· + ·) 0 + check ≠ 0 →
          takeControlBytes (0xB6 :: cls :: BitVec.ofNat 8 payload.length :: tag :: (payload ++ [check])) s =
            offer 0 (.error 0 .check none) s)) ∧
      (∀ (cls len : Byte), 240 < len.toNat →
        takeControlBytes [0xB6, cls, len] s = offer 0 (.error 0 .check none) s)) ∧
    (Running s → ∀ (cls tag : Byte) (payload : List Byte),
      let taken (code : Byte) (payload : List Byte) : Host.Outcome State Fault Refusal :=
        .next (takePacket code tag payload s)
      (exec (.set tag payload) s = taken 0x01 payload ∧ exec (.read tag payload) s = taken 0x02 payload ∧
        exec (.readIdentity tag) s = taken 0x02 [12] ∧ exec (.readStatus tag) s = taken 0x02 [13] ∧
        exec (.loadBegin tag payload) s = taken 0x10 payload ∧ exec (.loadData tag payload) s = taken 0x11 payload ∧
        exec (.loadEnd tag payload) s = taken 0x12 payload ∧ exec (.activate tag payload) s = taken 0x13 payload ∧
        exec (.verify tag payload) s = taken 0x14 payload ∧ exec (.gesture tag payload) s = taken 0x20 payload ∧
        exec (.commit tag payload) s = taken 0x21 payload ∧ exec (.endGesture tag payload) s = taken 0x22 payload ∧
        exec (.cancel tag payload) s = taken 0x23 payload ∧ exec (.pointer tag payload) s = taken 0x30 payload ∧
        exec (.sync tag payload) s = taken 0x40 payload ∧ exec (.echo tag payload) s = taken 0x41 payload ∧
        exec (.packetUnknownClass cls tag payload) s = taken cls payload) ∧
      (∀ (high : Nat) (i : Fin 4), high < 16 →
        exec (.park tag i) s = taken 0x24 [BitVec.ofNat 8 (16 * high + i.val)] ∧
        exec (.copy tag i) s = taken 0x24 [BitVec.ofNat 8 (16 * high + 4 + i.val)] ∧
        exec (.resume tag i) s = taken 0x24 [BitVec.ofNat 8 (16 * high + 8 + i.val)] ∧
        exec (.discard tag i) s = taken 0x24 [BitVec.ofNat 8 (16 * high + 12 + i.val)]) ∧
      (exec (.resetGesture tag) s = taken 0x42 [0] ∧ exec (.resetTables tag) s = taken 0x42 [1] ∧
        exec (.resetSettings tag) s = taken 0x42 [2] ∧ exec (.resetAll tag) s = taken 0x42 [3]) ∧
      (∀ b : Byte, 4 ≤ b.toNat → takePacket 0x42 tag [b] s = offer tag (.error 0x42 .field none) s) ∧
      (payload.length ≠ 1 →
        takePacket 0x24 tag payload s = offer tag (.error 0x24 .length none) s ∧
        takePacket 0x42 tag payload s = offer tag (.error 0x42 .length none) s))

/-- A good packet of an unknown class is refused with CLASS, and one whose payload length its class does not allow with
LENGTH; nothing but the report queue and its overrun marks changes (R17, R18, R176). The lengths of SET: the walk over its
pairs, 9 bytes for field 2 of group 2 and 5 for every other, must end at the payload's end. -/
def Obligations.UnknownClassesAndWrongLengthsAreRefused : Prop :=
  ∀ (tag : Byte) (payload : List Byte) (s : State), Running s →
    let refused (code : Byte) (cause : Cause) : Host.Outcome State Fault Refusal :=
      .next (offer tag (.error code cause none) s)
    (∀ cls : Byte, cls ∉ classCodes → exec (.packetUnknownClass cls tag payload) s = refused cls .cls) ∧
    (payload ≠ [] →
      exec (.verify tag payload) s = refused 0x14 .length ∧ exec (.commit tag payload) s = refused 0x21 .length ∧
      exec (.endGesture tag payload) s = refused 0x22 .length ∧ exec (.cancel tag payload) s = refused 0x23 .length ∧
      exec (.sync tag payload) s = refused 0x40 .length) ∧
    (payload.length ≠ 1 →
      exec (.read tag payload) s = refused 0x02 .length ∧ exec (.activate tag payload) s = refused 0x13 .length) ∧
    (payload.length ≠ 3 → exec (.loadEnd tag payload) s = refused 0x12 .length) ∧
    (payload.length ≠ 8 → exec (.pointer tag payload) s = refused 0x30 .length) ∧
    (payload = [] → exec (.set tag payload) s = refused 0x01 .length ∧
      exec (.loadBegin tag payload) s = refused 0x10 .length) ∧
    (payload.length < 3 → exec (.loadData tag payload) s = refused 0x11 .length) ∧
    (payload.length < 2 → exec (.gesture tag payload) s = refused 0x20 .length) ∧
    (240 < payload.length → exec (.echo tag payload) s = refused 0x41 .length) ∧
    (∀ (group : Byte) (rest : List Byte),
      let size (code : Byte) : Nat := if group = 2 ∧ code = 2 then 8 else 4
      (setPairs group rest = none → exec (.set tag (group :: rest)) s = refused 0x01 .length) ∧
      setPairs group [] = some [] ∧
      (∀ (code : Byte) (tail : List Byte),
        (tail.length < size code → setPairs group (code :: tail) = none) ∧
        (size code ≤ tail.length →
          (setPairs group (code :: tail) = none ↔ setPairs group (tail.drop (size code)) = none)))) ∧
    (∀ (target : Byte) (rest : List Byte),
      (target.toNat ≤ 1 ∧ rest.length ≠ 9 ∨ 2 ≤ target.toNat ∧ target.toNat ≤ 3 ∧ rest.length ≠ 2 ∨
          target = 4 ∧ rest.length ≠ 3 →
        exec (.loadBegin tag (target :: rest)) s = refused 0x10 .length)) ∧
    (∀ (target i1 i0 : Byte) (data : List Byte),
      (target.toNat ≤ 1 ∧ data.length % 10 ≠ 0 ∨ target = 2 ∧ data.length % 12 ≠ 0 ∨
          target = 3 ∧ data.length % 4 ≠ 0 ∨ target = 4 ∧ data.length % 8 ≠ 0 →
        exec (.loadData tag (target :: i1 :: i0 :: data)) s = refused 0x11 .length)) ∧
    (∀ (kind flags : Byte) (rest : List Byte),
      (rest.length % 2 = 1 ∨ flags.getLsbD 1 = true ∧ rest.length < 6 →
        exec (.gesture tag (kind :: flags :: rest)) s = refused 0x20 .length))

/-- A SET of any known fields of group `g` (R20, R21). The payload's pairs are placed in order on the working copy, where a
field holds its pending value if it has one, and of a field placed twice the later value stands; each placed field is
brought into its own range (of a set, the bits that stand for members are kept: log entry 19; a dependent field is first
clamped into its widest range: log entry 16); then dash_on and BLINK on are clamped under the controlling field, when
either was placed. Every field placed or changed by the clamping is written, and every other is as it was: while LOCKED
the value is pending, the current value and everything else staying; otherwise it is current, with the notices of R23 (and
one search request, log entry 27). An empty list changes nothing; an unknown group, or a field the group does not have, is
refused with FIELD. -/
def Obligations.SetWritesTheNamedGroup : Prop :=
  ∀ (tag group : Byte) (rest : List Byte) (s : State), Running s → rest.length ≤ 239 →
    (∀ (g : Group) (pairs : List (Byte × Int)), groupOf group = some g → setPairs group rest = some pairs →
      let cells := groupCells s.pds.settings g
      let work (i : Nat) : Int := match cells[i]? with
        | some c => c.pending.getD c.current
        | none => 0
      let placed (i : Nat) : Option Int := (pairs.reverse.find? fun p => decide (p.1.toNat = i)).map Prod.snd
      let first (i : Nat) : Int := match placed i, (groupSpecs g)[i]? with
        | some v, some f => match f.mask with
          | some bits => v % (2 ^ bits : Nat)
          | none => clampInt f.lo f.hi v
        | _, _ => work i
      let under (control dependent : Nat) (hi : Int) (i : Nat) : Int :=
        if i = dependent ∧ (placed control ≠ none ∨ placed dependent ≠ none) then clampInt 1 hi (first i) else first i
      let value (i : Nat) : Int :=
        if g = .blink then under 0 1 (first 0 - 1) i
        else if g = .styleCursor ∨ g = .styleMarker ∨ g = .styleRubber ∨ g = .styleGhost then
          under 3 4 (max (first 3) 1) i
        else first i
      let written (i : Nat) : Prop := placed i ≠ none ∨ value i ≠ work i
      let store (t : Settings) (write : FieldCell → Int → FieldCell) : Prop :=
        (∀ h, h ≠ g → groupCells t h = groupCells s.pds.settings h) ∧ (groupCells t g).length = cells.length ∧
        ∀ i c, cells[i]? = some c →
          (written i → (groupCells t g)[i]? = some (write c (value i))) ∧ (¬written i → (groupCells t g)[i]? = some c)
      (fieldsKnown g pairs = true ↔ ∀ p ∈ pairs, p.1.toNat < (groupSpecs g).length) ∧
      (fieldsKnown g pairs = true → s.vpl.lock = .locked →
        ∃ t, exec (.set tag (group :: rest)) s = .next { s with pds := { s.pds with settings := t } } ∧
          store t fun c v => { c with pending := some v }) ∧
      (fieldsKnown g pairs = true → s.vpl.lock ≠ .locked →
        let asks : Prop := (g = .view ∨ g = .tablet ∨ g = .snap) ∧ ∃ i < cells.length, placed i ≠ none
        ∃ t, exec (.set tag (group :: rest)) s = .next t ∧ store t.pds.settings (fun _ v => ⟨v, none⟩) ∧
          t.pds = { s.pds with settings := t.pds.settings } ∧ t.vpl = s.vpl ∧ t.gcu = s.gcu ∧ t.rlt = s.rlt ∧
          t.ptu = (if g = .tablet ∧ placed 5 ≠ none then sourceChanged t.pds.settings s.ptu else s.ptu) ∧
          t.ovc = (if g = .blink ∧ placed 0 ≠ none then { s.ovc with phase := 0, restart := true } else s.ovc) ∧
          t.tbs = { s.tbs with
            pin := t.tbs.pin, interval := if g = .reports ∧ placed 1 ≠ none then 0 else s.tbs.interval } ∧
          (asks → SearchAsked s t) ∧ (¬asks → t.sse = s.sse ∧ t.tbs.pin = s.tbs.pin)) ∧
      (fieldsKnown g pairs = false →
        exec (.set tag (group :: rest)) s = .next (offer tag (.error 0x01 .field none) s))) ∧
    (∀ (code b3 b2 b1 b0 : Byte) (tail : List Byte), ¬(group = 2 ∧ code = 2) →
      setPairs group (code :: b3 :: b2 :: b1 :: b0 :: tail) =
        (setPairs group tail).map fun pairs => (code, (b3 ++ b2 ++ b1 ++ b0).toInt) :: pairs) ∧
    (∀ (b7 b6 b5 b4 b3 b2 b1 b0 : Byte) (tail : List Byte),
      setPairs 2 (2 :: b7 :: b6 :: b5 :: b4 :: b3 :: b2 :: b1 :: b0 :: tail) =
        (setPairs 2 tail).map fun pairs =>
          ((2 : Byte), ((b7 ++ b6 ++ b5 ++ b4 ++ b3 ++ b2 ++ b1 ++ b0).toNat : Int)) :: pairs) ∧
    (groupOf group ≠ none → exec (.set tag [group]) s = .next s) ∧
    (∀ (code : Byte) (x y : List Byte), x.length = y.length → x.length = (if group = 2 ∧ code = 2 then 8 else 4) →
      exec (.set tag (group :: code :: (x ++ code :: y))) s = exec (.set tag (group :: code :: y)) s) ∧
    (groupOf group = none → setPairs group rest ≠ none →
      exec (.set tag (group :: rest)) s = .next (offer tag (.error 0x01 .field none) s))

/-- One field written by a SET (R20, R21): the value is clamped into the field's own range, and of a set the bits that
stand for members are kept (log entry 19); while LOCKED it becomes the pending value of that field alone; otherwise it
is current at once, with the notices of R23: one search request for VIEW, TABLET and SNAP, the source change of R65
(with the one request, log entry 27), the interval change of R86. For the groups in which no field depends on another.
-/
def Obligations.SetClampsAndWritesOneField : Prop :=
  (∀ (tag group : Byte) (g : Group) (code : Nat) (f : FieldSpec) (v : Int) (s : State), Running s →
    groupOf group = some g → dependence g = none → (groupSpecs g)[code]? = some f → f.mask = none →
    -2147483648 ≤ v → v ≤ 2147483647 →
    let written (cell : FieldCell → FieldCell) : State := { s with pds := { s.pds with
      settings := setGroupCells s.pds.settings g ((groupCells s.pds.settings g).modify code cell) } }
    let packet : Instr := .set tag (group :: BitVec.ofNat 8 code :: bytesOfInt 4 v)
    let now : State := written fun _ => ⟨clampInt f.lo f.hi v, none⟩
    (s.vpl.lock = .locked →
      exec packet s = .next (written fun c => { c with pending := some (clampInt f.lo f.hi v) })) ∧
    (s.vpl.lock ≠ .locked → g = .markers ∨ g = .cursor ∨ g = .buttons ∨ g = .reports ∧ code = 0 →
      exec packet s = .next now) ∧
    (s.vpl.lock ≠ .locked → g = .reports → code = 1 →
      exec packet s = .next { now with tbs := { s.tbs with interval := 0 } }) ∧
    (s.vpl.lock ≠ .locked → code < (groupCells s.pds.settings g).length →
      (g = .view ∨ g = .tablet ∧ code ≠ 5 ∨ g = .snap → exec packet s = .next (searchRequest now)) ∧
      (g = .tablet → code = 5 → sourceField now.pds.settings = (if v ≤ 0 then .tablet else .packet) ∧
        exec packet s = .next (searchRequest { now with ptu := sourceChanged now.pds.settings s.ptu })))) ∧
  (∀ (tag : Byte) (v : Int) (n : Nat) (s : State), Running s → -2147483648 ≤ v → v ≤ 2147483647 → n < 2 ^ 64 →
    let written (code : Nat) (cell : FieldCell → FieldCell) : State := { s with pds := { s.pds with
      settings := { s.pds.settings with snap := s.pds.settings.snap.modify code cell } } }
    let kinds : Instr := .set tag (2 :: 1 :: bytesOfInt 4 v)
    let layers : Instr := .set tag (2 :: 2 :: bytesOfNat 8 n)
    (s.vpl.lock = .locked →
      exec kinds s = .next (written 1 fun c => { c with pending := some (v % 128) }) ∧
      exec layers s = .next (written 2 fun c => { c with pending := some (n : Int) })) ∧
    (s.vpl.lock ≠ .locked → s.pds.settings.snap.length = 11 →
      exec kinds s = .next (searchRequest (written 1 fun _ => ⟨v % 128, none⟩)) ∧
      exec layers s = .next (searchRequest (written 2 fun _ => ⟨(n : Int), none⟩))))

/-- The second pass of R21: a SET of a controlling or a dependent field alone clamps the dependent one under the
controlling one as the working copy holds them, and writes it too when that changed it: BLINK on into 1..period − 1, and
dash_on of each style group into 1..max(dash_period, 1). While LOCKED what is written becomes pending; outside LOCKED a
BLINK period is current at once, and its notice sets the phase to 0 with the restart mark (R23, R143). That the first pass
clamps a dependent field into its widest range, 1..254 and 1..32, is log entry 16. -/
def Obligations.SetOfBlinkPeriodClampsOn : Prop :=
  ∀ (tag : Byte) (s : State), Running s →
    let held (c : FieldCell) : Int := c.pending.getD c.current
    let write (v : Int) (c : FieldCell) : FieldCell :=
      if s.vpl.lock = .locked then { c with pending := some v } else ⟨v, none⟩
    let clamped (hi : Int) (c : FieldCell) : FieldCell :=
      if clampInt 1 hi (held c) = held c then c else write (clampInt 1 hi (held c)) c
    (∀ (v : Int) (period on : FieldCell), -2147483648 ≤ v → v ≤ 2147483647 → s.pds.settings.blink = [period, on] →
      let blinking (cells : List FieldCell) : State := { s with pds := { s.pds with
        settings := { s.pds.settings with blink := cells } } }
      let p := clampInt 2 255 v
      (s.vpl.lock = .locked →
        exec (.set tag (5 :: 0 :: bytesOfInt 4 v)) s =
          .next (blinking [{ period with pending := some p }, clamped (p - 1) on])) ∧
      (s.vpl.lock ≠ .locked →
        exec (.set tag (5 :: 0 :: bytesOfInt 4 v)) s =
          .next { blinking [⟨p, none⟩, clamped (p - 1) on] with ovc := { s.ovc with phase := 0, restart := true } }) ∧
      exec (.set tag (5 :: 1 :: bytesOfInt 4 v)) s =
        .next (blinking [period, write (clampInt 1 (held period - 1) (clampInt 1 254 v)) on])) ∧
    (∀ (g : Group) (group : Byte) (v : Int) (op a b period on blink : FieldCell),
      g = .styleCursor ∧ group = 8 ∨ g = .styleMarker ∧ group = 9 ∨ g = .styleRubber ∧ group = 10 ∨
        g = .styleGhost ∧ group = 11 →
      -2147483648 ≤ v → v ≤ 2147483647 → groupCells s.pds.settings g = [op, a, b, period, on, blink] →
      let styled (period on : FieldCell) : State := { s with pds := { s.pds with
        settings := setGroupCells s.pds.settings g [op, a, b, period, on, blink] } }
      exec (.set tag (group :: 3 :: bytesOfInt 4 v)) s =
        .next (styled (write (clampInt 0 32 v) period) (clamped (max (clampInt 0 32 v) 1) on)) ∧
      exec (.set tag (group :: 4 :: bytesOfInt 4 v)) s =
        .next (styled period (write (clampInt 1 (max (held period) 1) (clampInt 1 32 v)) on)))

/-- A READ of a writable group offers a SETTING report with each field's current value and pending flag, in code order; a
group byte that names nothing is refused with FIELD; nothing else changes (R24). -/
def Obligations.ReadReportsCurrentValues : Prop :=
  ∀ (tag group : Byte) (s : State), Running s →
    (∀ g, groupOf group = some g →
      exec (.read tag [group]) s = .next (offer tag (.setting group ((groupCells s.pds.settings g).mapIdx fun i c =>
        ⟨c.current, decide (g = .snap ∧ i = 2), c.pending.isSome⟩)) s)) ∧
    (13 < group.toNat → exec (.read tag [group]) s = .next (offer tag (.error 0x02 .field none) s))

/-- READ_IDENTITY (R25). -/
def Obligations.ReadIdentityReportsFixedValues : Prop :=
  ∀ (tag : Byte) (s : State), Running s → Room 1 s →
    exec (.readIdentity tag) s = .next (s.queued
      [⟨tag, .setting 12 [⟨0x0D1A, false, false⟩, ⟨0x7230, false, false⟩, ⟨1, false, false⟩]⟩])

/-- READ_STATUS (R26): with a place free its report is queued with the twenty values of that moment, in the codes of R26's
table, and the sticky flags are cleared; with none it is dropped, REPORT_OVERRUN is set and the other two flags keep their
values. -/
def Obligations.ReadStatusReportsAndClears : Prop :=
  ∀ (tag : Byte) (s : State), Running s →
    let flag (b : Bool) : Nat := if b then 1 else 0
    let lock : Nat := match s.vpl.lock with
      | .search => 0
      | .confirm => 1
      | .locked => 2
      | .lost => 3
    let bank (b : Bank) : Nat := match b.state with
      | .empty => 0
      | .loading => 1
      | .building => 2
      | .ready => 3
      | .active => 4
      | .damaged => 5
    let active : Nat :=
      if s.tbs.bank0.state = .active then 0 else if s.tbs.bank1.state = .active then 1 else 2
    let mark : Nat := match s.tbs.mark with
      | none => 2
      | some ⟨some .snap0, _⟩ => 0
      | some ⟨some .snap1, _⟩ => 1
      | some ⟨none, _⟩ => 3
    let gesture : Nat := match s.gcu.live.state with
      | .idle => 0
      | .armed => 1
      | .tracking => 2
    let kind : Nat := match s.gcu.live.kind with
      | .point => 0
      | .line => 1
      | .chain => 2
      | .rect => 3
      | .circle => 4
      | .move => 5
    let values : List Nat :=
      [lock, s.vpl.width, s.vpl.height, bank s.tbs.bank0, bank s.tbs.bank1, active, mark, flag s.tbs.verify.isSome,
       gesture, kind, flag s.gcu.slot0.isSome, flag s.gcu.slot1.isSome, flag s.gcu.slot2.isSome,
       flag s.gcu.slot3.isSome, flag s.sse.flight.isSome, s.ovc.linesOverrun, flag s.tbs.snapDown,
       flag s.pds.linkErr, flag s.pds.tabletErr, flag s.pds.reportOverrun]
    (Room 1 s → exec (.readStatus tag) s =
      .next { s.queued [⟨tag, .setting 13 (values.map fun v => ⟨v, false, false⟩)⟩] with
        pds := { s.pds with linkErr := false, tabletErr := false, reportOverrun := false } }) ∧
    (16 ≤ s.rlt.queue.length → exec (.readStatus tag) s = .next s.dropped)

/-- SYNC (R29): with nothing pending, or not LOCKED, it is answered at once; otherwise its tag waits at the end of the
fence list, unless 16 tags wait already. -/
def Obligations.SyncAnswersOrWaits : Prop :=
  ∀ (tag : Byte) (s : State), Running s →
    (pendingItem s = false ∨ s.vpl.lock ≠ .locked → exec (.sync tag []) s = .next (offer tag .syncDone s)) ∧
    (pendingItem s = true → s.vpl.lock = .locked → s.pds.fence.length < 16 →
      exec (.sync tag []) s = .next { s with pds := { s.pds with fence := s.pds.fence ++ [tag] } }) ∧
    (pendingItem s = true → s.vpl.lock = .locked → 16 ≤ s.pds.fence.length →
      exec (.sync tag []) s = .next (offer tag (.error 0x40 .inUse none) s))

/-- ECHO (R28), with the queue rules of R166. -/
def Obligations.EchoReturnsTheComplement : Prop :=
  ∀ (tag : Byte) (payload : List Byte) (s : State), Running s → payload.length ≤ 240 →
    (s.rlt.queue.length < 16 →
      exec (.echo tag payload) s = .next (s.queued [⟨tag, .echo (payload.map fun b => ~~~b)⟩])) ∧
    (16 ≤ s.rlt.queue.length → exec (.echo tag payload) s = .next s.dropped)

/-- The active start of a frame (R11). While LOCKED it is the apply point: every waiting change becomes current, with
its reports and one search request (R12, R22, R29, R81, R82, R90, R98); then the blink step, the frame latch of the
values now current with its display list and overrun count, and the opening of the window (R13, R140, R143, R144, R159).
Outside LOCKED it is the blink step alone. The values of a staging record that the apply point leaves IDLE are log
entry 28. -/
def Obligations.ActiveStartIsTheApplyPoint : Prop :=
  ∀ (vd : Rgb) (vhs vvs : Bool) (s : State), Running s → s.vpl.awaitActive = true →
    (vvs = true → s.vpl.prevVvs = true) →
    let blink (restart : Bool) (phase period : Nat) : Nat := if restart then phase else (phase + 1) % period
    (s.vpl.lock = .locked → s.vpl.run = 0 → s.vpl.record.lines = 0 → 0 < s.vpl.width → 0 < s.vpl.height →
      ∃ t, exec (.pixelCycle vd vhs vvs) s = .next t ∧ ChangesCurrent s t ∧ NothingPending t ∧
        Offered s t (applyReports s) ∧
        t.pds = { s.pds with
          settings := t.pds.settings, fence := [], reportOverrun := t.pds.reportOverrun } ∧
        t.sse.published = s.sse.published ∧
        (let n := t.pds.settings
        let style (g : Group) : Style :=
          ⟨current n g 0, current n g 1, current n g 2, current n g 3, current n g 4, current n g 5⟩
        let phase : Nat := if fieldPending s.pds.settings .blink 0 then 0
          else blink s.ovc.restart s.ovc.phase (current n .blink 0).toNat
        let latch : FrameLatch := {
          shown := s.sse.published, current := true, gestureState := s.gcu.live.state, gestureKind := s.gcu.live.kind,
          vertices := s.gcu.live.vertices, close := s.gcu.live.close,
          view := ⟨current n .view 0, current n .view 1, current n .view 2⟩,
          styleCursor := style .styleCursor, styleMarker := style .styleMarker, styleRubber := style .styleRubber,
          styleGhost := style .styleGhost, cursorGlyph := current n .cursor 0, crosshair := current n .cursor 1,
          markers := n.markers.map FieldCell.current, blinkOn := current n .blink 1, phase := phase,
          width := s.vpl.width, height := s.vpl.height, ghosts := t.tbs.ghosts, glyphs := t.tbs.glyphs }
        let list := displayList latch (decide (0 < s.ovc.forcedOff))
        t.ovc = { s.ovc with
          latch := latch, display := list, frameOverrun := overrunCount latch list, phase := phase, restart := false,
          forcedOff := s.ovc.forcedOff - 1 }) ∧
        t.vpl = { pushCycle ⟨vd, vhs, vvs, true,
            match answer t.ovc 0 0 with
            | .none => vd
            | .color c => c
            | .invert => ~~~vd⟩ s.vpl with
          awaitActive := false, windowOpen := true, run := 1 }) ∧
    (s.vpl.lock ≠ .locked → s.vpl.windowOpen = false →
      exec (.pixelCycle vd vhs vvs) s = .next { s with
        ovc := { s.ovc with
          phase := blink s.ovc.restart s.ovc.phase (current s.pds.settings .blink 0).toNat, restart := false },
        vpl := { pushCycle ⟨vd, vhs, vvs, true, vd⟩ s.vpl with awaitActive := false, run := min (s.vpl.run + 1) 4095 } })

/-- RESET_GESTURE, RESET_TABLES and RESET_SETTINGS (R30, R95, R138, R163): what each sets, what each leaves, its one search
request, and its reports in their order: CANCELLED for a live gesture, SYNC_DONE for every waiting tag when no pending
item remains, and RESET_DONE (R29). The receive state and the sticky flags stay, but that a report of the RESET dropped
by a full queue sets REPORT_OVERRUN (R166; log entry 21). -/
def Obligations.ScopedResetsResetTheirScope : Prop :=
  ∀ (tag : Byte) (s : State), Running s →
    let g := s.gcu.live
    let cancelled : List Report :=
      if g.state = .idle then [] else [⟨tag, .cancelled .reset (g.epoch + 1) g.kind g.vertices.length .reset⟩]
    let synced (remains : Bool) : List Report := if remains then [] else s.pds.fence.map fun tag => ⟨tag, .syncDone⟩
    let waits (remains : Bool) : List Byte := if remains then s.pds.fence else []
    let left (s t : State) (settings : Settings) (fence : List Byte) : Pds :=
      { s.pds with settings := settings, fence := fence, reportOverrun := t.pds.reportOverrun }
    (∃ t, exec (.resetGesture tag) s = .next t ∧ t.gcu.live.state = .idle ∧ (∀ i, slotOf t.gcu i = none) ∧
      (s.gcu.live.state ≠ .idle →
        t.gcu.live = { kind := s.gcu.live.kind, state := .idle, vertices := [], close := false, exclusions := [],
                       epoch := s.gcu.live.epoch + 1 }) ∧
      (s.gcu.live.state = .idle → t.gcu.live = s.gcu.live) ∧
      t.pds = left s t s.pds.settings (waits (pendingItem s)) ∧ t.vpl = s.vpl ∧ t.ptu = s.ptu ∧ t.ovc = s.ovc ∧
      t.tbs = { s.tbs with pin := t.tbs.pin } ∧ t.sse.flight ≠ none ∧ (s.sse.flight ≠ none → t.sse.rerun = true) ∧
      SearchAsked s t ∧
      Offered s t (cancelled ++ synced (pendingItem s) ++ [⟨tag, .resetDone .gesture⟩])) ∧
    (∃ t, exec (.resetTables tag) s = .next t ∧ t.tbs.mark = none ∧ t.tbs.verify = none ∧
      (∀ b, s.tbs.pin ≠ some b → (bankOf t.tbs b).state = .empty ∧ (bankOf t.tbs b).entries = []) ∧
      (∀ b, s.tbs.pin = some b → (bankOf t.tbs b) = { bankOf s.tbs b with state := .ready, fate := some .empty }) ∧
      t.tbs.ghostStage.state = .idle ∧ t.tbs.directionStage.state = .idle ∧ t.tbs.glyphStage.state = .idle ∧
      t.tbs.ghosts = [] ∧ t.tbs.directions = [] ∧ t.tbs.glyphs = builtinGlyphs ∧ t.tbs.snapDown = false ∧
      t.tbs.interval = s.tbs.interval ∧ t.vpl = s.vpl ∧ t.ptu = s.ptu ∧
      t.gcu = s.gcu ∧ t.ovc = s.ovc ∧ t.sse.flight ≠ none ∧ (s.sse.flight ≠ none → t.sse.rerun = true) ∧
      SearchAsked s t ∧ t.pds = left s t s.pds.settings (waits (settingsPending s.pds.settings)) ∧
      Offered s t (synced (settingsPending s.pds.settings) ++ [⟨tag, .resetDone .tables⟩])) ∧
    (∃ t, exec (.resetSettings tag) s = .next t ∧ t.pds.settings = resetSettings ∧
      t.ovc = { s.ovc with phase := 0, restart := true } ∧ t.tbs = { s.tbs with interval := 0, pin := t.tbs.pin } ∧
      t.ptu.source = .tablet ∧ t.ptu = sourceChanged resetSettings s.ptu ∧ t.vpl = s.vpl ∧ t.gcu = s.gcu ∧
      t.sse.flight ≠ none ∧ (s.sse.flight ≠ none → t.sse.rerun = true) ∧ SearchAsked s t ∧
      (let remains : Bool := s.tbs.mark.isSome || decide (s.tbs.ghostStage.state = .staged) ||
        decide (s.tbs.directionStage.state = .staged) || decide (s.tbs.glyphStage.state = .staged)
      t.pds = left s t resetSettings (waits remains) ∧ Offered s t (synced remains ++ [⟨tag, .resetDone .settings⟩])))

/-- RESET_ALL (R30, R172): every step, the queue flushed with RESET_DONE alone in it, the fence list emptied, the
mailbox empty; the video path and a transmission under way as they were. The CANCELLED report of the gesture step is
offered to the queue before the flush: to a full one it is dropped, which sets REPORT_OVERRUN and the overrun notice
(R166; log entry 21); otherwise the sticky flags and the notice stay. -/
def Obligations.ResetAllFlushesAndResets : Prop :=
  ∀ (tag : Byte) (s : State), Running s →
    let drops : Bool := decide (s.gcu.live.state ≠ .idle) && decide (16 ≤ s.rlt.queue.length)
    ∃ t, exec (.resetAll tag) s = .next t ∧
      t.rlt = { s.rlt with queue := [⟨tag, .resetDone .all⟩], overrun := s.rlt.overrun || drops } ∧
      t.pds = { s.pds with settings := resetSettings, fence := [], reportOverrun := s.pds.reportOverrun || drops } ∧
      t.gcu.live.state = .idle ∧ (∀ i, slotOf t.gcu i = none) ∧
      (s.gcu.live.state = .idle → t.gcu.live = s.gcu.live) ∧
      (s.gcu.live.state ≠ .idle → t.gcu.live = ⟨s.gcu.live.kind, .idle, [], false, [], s.gcu.live.epoch + 1⟩) ∧
      t.tbs.mark = none ∧ t.tbs.verify = none ∧ t.tbs.ghosts = [] ∧ t.tbs.directions = [] ∧
      t.tbs.glyphs = builtinGlyphs ∧ t.tbs.snapDown = false ∧ t.tbs.interval = 0 ∧
      t.tbs.ghostStage.state = .idle ∧ t.tbs.directionStage.state = .idle ∧ t.tbs.glyphStage.state = .idle ∧
      (∀ b, s.tbs.pin ≠ some b → (bankOf t.tbs b).state = .empty) ∧ activeBank t.tbs = none ∧
      (∀ b, s.tbs.pin = some b → bankOf t.tbs b = { bankOf s.tbs b with state := .ready, fate := some .empty }) ∧
      t.ptu.mailbox = ⟨indefinitePoint, false, 0⟩ ∧ t.ptu.sequence = 0 ∧ t.ptu.buttons = 0 ∧
      t.ptu.silence = .stopped ∧ t.ptu.source = .tablet ∧ t.ptu.receiver = s.ptu.receiver ∧ t.ptu.rate = s.ptu.rate ∧
      t.vpl = s.vpl ∧ t.ovc = { s.ovc with phase := 0, restart := true } ∧
      t.sse.published = s.sse.published ∧ t.sse.flight ≠ none ∧ (s.sse.flight ≠ none → t.sse.rerun = true) ∧
      SearchAsked s t

/-! ## Pointer unit -/

/-- The frame receiver's table (R53), character by character, and the line held low (R52; log entry 17): TABLET_BYTE,
TABLET_FRAMING_ERROR and TABLET_LINE_RETURN_HIGH. -/
def Obligations.FrameReceiverTakesCharacters : Prop :=
  ∀ (b : Byte) (s : State), Running s →
    let receiving (r : FrameReceiver) (u : State) : State := { u with ptu := { u.ptu with receiver := r } }
    let flagged : State := { s with pds := { s.pds with tabletErr := true } }
    (s.ptu.lineLow = false → s.ptu.receiver = .hunt → b.msb = true →
      exec (.tabletByte b) s = .next (receiving (.collect [b]) s)) ∧
    (s.ptu.lineLow = false → s.ptu.receiver = .hunt → b.msb = false → exec (.tabletByte b) s = .next s) ∧
    (∀ bytes, s.ptu.lineLow = false → s.ptu.receiver = .collect bytes → b.msb = false →
      (bytes.length < 7 → exec (.tabletByte b) s = .next (receiving (.collect (bytes ++ [b])) s)) ∧
      (7 ≤ bytes.length → exec (.tabletByte b) s = .next (judgeFrame (bytes ++ [b]) (receiving .hunt s)))) ∧
    (∀ bytes, s.ptu.lineLow = false → s.ptu.receiver = .collect bytes → b.msb = true →
      exec (.tabletByte b) s = .next (receiving (.collect [b]) flagged)) ∧
    (s.ptu.lineLow = false →
      exec .tabletFramingError s =
        .next { flagged with ptu := { s.ptu with receiver := .hunt, lineLow := true } }) ∧
    (s.ptu.lineLow = true → exec .tabletFramingError s = .next s ∧ exec (.tabletByte b) s = .next s) ∧
    exec .tabletLineReturnHigh s = .next { s with ptu := { s.ptu with lineLow := false } }

/-- A frame of eight characters from HUNT (R54, R55, R57, R58): a good one with the TABLET in use places its sample (the
calibrated point, or the last point with proximity OUT) under the next sequence number with one search request, restarts
the silence timer, and hands its presses on; a good one with PACKET in use does nothing more; a bad one sets TABLET_ERR
alone. The row as eight characters is log entry 10. -/
def Obligations.TabletFrameIsJudged : Prop :=
  ∀ (b0 b1 b2 b3 b4 b5 b6 b7 : Byte) (s : State), Running s →
    WellFormed (.tabletFrame b0 b1 b2 b3 b4 b5 b6 b7) = true → s.ptu.lineLow = false → s.ptu.receiver = .hunt →
    let x := b1.toNat * 16384 + b2.toNat * 128 + b3.toNat
    let y := b4.toNat * 16384 + b5.toNat * 128 + b6.toNat
    let good : Prop := x ≤ 65535 ∧ y ≤ 65535 ∧
      (b0.toNat + b1.toNat + b2.toNat + b3.toNat + b4.toNat + b5.toNat + b6.toNat) % 128 = b7.toNat
    let point : Point := if b0.getLsbD 6 then calibrate s.pds.settings x y else s.ptu.mailbox.point
    let placed : State := { s with ptu := { s.ptu with
      mailbox := ⟨point, b0.getLsbD 6, s.ptu.sequence + 1⟩, sequence := s.ptu.sequence + 1,
      silence := .running 250 } }
    (good → s.ptu.source = .tablet →
      exec (.tabletFrame b0 b1 b2 b3 b4 b5 b6 b7) s =
        .next (handPresses (if b0.getLsbD 6 then b0.extractLsb' 0 4 else 0) (searchRequest placed))) ∧
    (good → s.ptu.source = .packet → exec (.tabletFrame b0 b1 b2 b3 b4 b5 b6 b7) s = .next s) ∧
    (¬good → exec (.tabletFrame b0 b1 b2 b3 b4 b5 b6 b7) s =
      .next { s with pds := { s.pds with tabletErr := true } })

/-- The calibrated point of R36: the counts exchanged with swap_axes on, each axis rounded half up and saturated, VALID
unless it saturates. -/
def Obligations.CalibrationRoundsAndSaturates : Prop :=
  ∀ (t : Settings) (cx cy : Nat),
    let ax := if current t .tablet 4 = 0 then cx else cy
    let ay := if current t .tablet 4 = 0 then cy else cx
    let x := current t .tablet 2 + Int.floor (((ax : ℚ) * current t .tablet 0 + 32768) / 65536)
    let y := current t .tablet 3 + Int.floor (((ay : ℚ) * current t .tablet 1 + 32768) / 65536)
    let axis (v : Int) (c : Coord) : Prop :=
      (-8388607 ≤ v → v ≤ 8388607 → c = ⟨v, .valid⟩) ∧ (8388607 < v → c = ⟨8388607, .offSheet⟩) ∧
      (v < -8388607 → c = ⟨-8388607, .offSheet⟩)
    axis x (calibrate t cx cy).x ∧ axis y (calibrate t cx cy).y

/-- The tablet silence timer expires (R59): with the pointer present an absent sample is placed, the buttons become up and
the timer stops, with one search request; with the pointer absent the timer stops. -/
def Obligations.TabletSilenceMakesThePointerAbsent : Prop :=
  ∀ (s : State) (ms : Nat), Running s → s.ptu.silence = .running ms →
    (s.ptu.mailbox.proximity = true →
      exec .tabletSilenceExpiry s = .next (searchRequest { s with ptu := { s.ptu with
        mailbox := ⟨s.ptu.mailbox.point, false, s.ptu.sequence + 1⟩, sequence := s.ptu.sequence + 1, buttons := 0,
        silence := .stopped } })) ∧
    (s.ptu.mailbox.proximity = false →
      exec .tabletSilenceExpiry s = .next { s with ptu := { s.ptu with silence := .stopped } })

/-- A POINTER packet (R62): refused with SOURCE while the TABLET is in use; otherwise one good frame, its point classed by
its stored values with proximity in, the last point kept with proximity out. -/
def Obligations.PointerPacketPlaysAFrame : Prop :=
  ∀ (tag x2 x1 x0 y2 y1 y0 proximity buttons : Byte) (s : State), Running s →
    let packet : Instr := .pointer tag [x2, x1, x0, y2, y1, y0, proximity, buttons]
    let placed (p : Point) (present : Bool) : State := { s with ptu := { s.ptu with
      mailbox := ⟨p, present, s.ptu.sequence + 1⟩, sequence := s.ptu.sequence + 1 } }
    (s.ptu.source = .tablet → exec packet s = .next (offer tag (.error 0x30 .source none) s)) ∧
    (s.ptu.source = .packet → proximity ≠ 0 →
      exec packet s = .next (handPresses (buttons.extractLsb' 0 4)
        (searchRequest (placed ⟨storedCoord (x2 ++ x1 ++ x0), storedCoord (y2 ++ y1 ++ y0)⟩ true)))) ∧
    (s.ptu.source = .packet → proximity = 0 →
      exec packet s = .next (handPresses 0 (searchRequest (placed s.ptu.mailbox.point false))))

/-! ## Table store -/

/-- LOAD_BEGIN for a snap bank (R69, R70): accepted with a count of 1 to 16,384 on a bank that is not ACTIVE and not
READY under a pin, with k (read unsigned, log entry 29) and the origin clamped and a mark on the bank removed; refused
with ACTIVE, IN_USE and COUNT in that order. For the other targets: DIRECTIONS (0 to 24), GHOST while no MOVE is live (1
to 512), GLYPH (1 to 16 in the table), and COUNT outside these. An unknown target is refused with FIELD. The fields of a
LOADING bank or record that these rules give no value (load tag, void count, largest occupancy, and the first glyph of
GHOST and DIRECTIONS) are log entry 28. -/
def Obligations.LoadBeginOpensALoad : Prop :=
  ∀ (tag c1 c0 k ox2 ox1 ox0 oy2 oy1 oy0 first : Byte) (b : BankId) (s : State), Running s →
    let count := c1.toNat * 256 + c0.toNat
    let moving : Prop := s.gcu.live.kind = .move ∧ (s.gcu.live.state = .armed ∨ s.gcu.live.state = .tracking)
    let code : Byte := match b with
      | .snap0 => 0
      | .snap1 => 1
    let packet : Instr := .loadBegin tag [code, c1, c0, k, ox2, ox1, ox0, oy2, oy1, oy0]
    let loading : Bank := { emptyBank with
      state := .loading, count := count, shift := (clampInt 6 20 k.toNat).toNat,
      originX := clampInt (-8388607) 8388607 (ox2 ++ ox1 ++ ox0).toInt,
      originY := clampInt (-8388607) 8388607 (oy2 ++ oy1 ++ oy0).toInt }
    let inUse : Prop := (bankOf s.tbs b).state = .ready ∧ s.tbs.pin = some b
    let refused (cause : Cause) : Host.Outcome State Fault Refusal := .next (offer tag (.error 0x10 cause none) s)
    ((bankOf s.tbs b).state ≠ .active → ¬inUse → 1 ≤ count → count ≤ 16384 →
      exec packet s = .next { s with tbs := { setBank s.tbs b loading with
        mark := if s.tbs.mark.map Mark.target = some (some b) then none else s.tbs.mark } }) ∧
    ((bankOf s.tbs b).state = .active → exec packet s = refused .active) ∧
    (inUse → exec packet s = refused .inUse) ∧
    ((bankOf s.tbs b).state ≠ .active → ¬inUse → ¬(1 ≤ count ∧ count ≤ 16384) → exec packet s = refused .count) ∧
    (count ≤ 24 → exec (.loadBegin tag [3, c1, c0]) s = .next { s with tbs := { s.tbs with
      directionStage := ⟨.loading, count, 0, 0xFFFF, [], 0, 0⟩ } }) ∧
    (24 < count → exec (.loadBegin tag [3, c1, c0]) s = refused .count) ∧
    (¬moving → 1 ≤ count → count ≤ 512 →
      exec (.loadBegin tag [2, c1, c0]) s = .next { s with tbs := { s.tbs with
        ghostStage := ⟨.loading, count, 0, 0xFFFF, [], 0, 0⟩ } }) ∧
    (¬moving → count = 0 ∨ 512 < count → exec (.loadBegin tag [2, c1, c0]) s = refused .count) ∧
    (moving → exec (.loadBegin tag [2, c1, c0]) s = refused .inUse) ∧
    (1 ≤ count → first.toNat % 16 + count ≤ 16 →
      exec (.loadBegin tag [4, c1, c0, first]) s = .next { s with tbs := { s.tbs with
        glyphStage := ⟨.loading, 33 * count, 0, 0xFFFF, [], first.toNat % 16, 0⟩ } }) ∧
    (count = 0 ∨ 16 < first.toNat % 16 + count →
      exec (.loadBegin tag [4, c1, c0, first]) s = refused .count) ∧
    (∀ (target : Byte) (rest : List Byte), 5 ≤ target.toNat → rest.length ≤ 239 →
      exec (.loadBegin tag (target :: rest)) s = refused .field)

/-- LOAD_DATA in an open load (R72, R177): records at the cursor are stored as received, direction components clamped
and a glyph's header hotspot modulo 32 (R71, R93), their bytes enter the CRC and the cursor advances; a wrong index is
refused with SEQUENCE and the cursor, too many records with OVERFLOW and the cursor; with no open load the refusal is
ACTIVE on the ACTIVE bank and SEQUENCE without a cursor otherwise; for GHOST it is IN_USE while a MOVE is live (R91),
and FIELD for an unknown target. -/
def Obligations.LoadDataStoresRecords : Prop :=
  ∀ (tag i1 i0 : Byte) (data : List Byte) (b : BankId) (s : State), Running s → data.length ≤ 237 →
    let code : Byte := match b with
      | .snap0 => 0
      | .snap1 => 1
    let index := i1.toNat * 256 + i0.toNat
    let moving : Prop := s.gcu.live.kind = .move ∧ (s.gcu.live.state = .armed ∨ s.gcu.live.state = .tracking)
    let bank := bankOf s.tbs b
    let packet (target : Byte) : Instr := .loadData tag (target :: i1 :: i0 :: data)
    let refused (cause : Cause) (cursor : Option Nat) : Host.Outcome State Fault Refusal :=
      .next (offer tag (.error 0x11 cause cursor) s)
    let byte (r : List Byte) (i : Nat) : Byte := r.getD i 0
    let records (size : Nat) : List (List Byte) := pieces size (data.length / size) data
    let ghost (r : List Byte) : GhostSegment :=
      ⟨byte r 0 ++ byte r 1 ++ byte r 2, byte r 3 ++ byte r 4 ++ byte r 5, byte r 6 ++ byte r 7 ++ byte r 8,
        byte r 9 ++ byte r 10 ++ byte r 11⟩
    let direction (r : List Byte) : Direction :=
      ⟨clampInt (-16384) 16384 (byte r 0 ++ byte r 1).toInt, clampInt (-16384) 16384 (byte r 2 ++ byte r 3).toInt⟩
    let glyph (i : Nat) (r : List Byte) : GlyphRecord :=
      if (s.tbs.glyphStage.cursor + i) % 33 = 0 then .header ((byte r 0).toNat % 32) ((byte r 1).toNat % 32)
      else .row (byte r 0 ++ byte r 1 ++ byte r 2 ++ byte r 3 ++ byte r 4 ++ byte r 5 ++ byte r 6 ++ byte r 7)
    (data.length % 10 = 0 →
      (bank.state = .loading → index = bank.cursor → index + data.length / 10 ≤ bank.count →
        exec (packet code) s = .next { s with tbs := setBank s.tbs b { bank with
          cursor := bank.cursor + data.length / 10, runningCrc := crcBytes bank.runningCrc data,
          entries := bank.entries ++ (records 10).map entryOfBytes } }) ∧
      (bank.state = .loading → index ≠ bank.cursor → exec (packet code) s = refused .sequence (some bank.cursor)) ∧
      (bank.state = .loading → index = bank.cursor → bank.count < index + data.length / 10 →
        exec (packet code) s = refused .overflow (some bank.cursor)) ∧
      (bank.state = .active → exec (packet code) s = refused .active none) ∧
      (bank.state ≠ .loading → bank.state ≠ .active → exec (packet code) s = refused .sequence none)) ∧
    (data.length % 12 = 0 →
      let g := s.tbs.ghostStage
      (moving → exec (packet 2) s = refused .inUse none) ∧
      (¬moving → g.state ≠ .loading → exec (packet 2) s = refused .sequence none) ∧
      (¬moving → g.state = .loading →
        (index = g.cursor → index + data.length / 12 ≤ g.count →
          exec (packet 2) s = .next { s with tbs := { s.tbs with ghostStage := { g with
            cursor := g.cursor + data.length / 12, runningCrc := crcBytes g.runningCrc data,
            records := g.records ++ (records 12).map ghost } } }) ∧
        (index ≠ g.cursor → exec (packet 2) s = refused .sequence (some g.cursor)) ∧
        (index = g.cursor → g.count < index + data.length / 12 →
          exec (packet 2) s = refused .overflow (some g.cursor)))) ∧
    (data.length % 4 = 0 →
      let g := s.tbs.directionStage
      (g.state ≠ .loading → exec (packet 3) s = refused .sequence none) ∧
      (g.state = .loading →
        (index = g.cursor → index + data.length / 4 ≤ g.count →
          exec (packet 3) s = .next { s with tbs := { s.tbs with directionStage := { g with
            cursor := g.cursor + data.length / 4, runningCrc := crcBytes g.runningCrc data,
            records := g.records ++ (records 4).map direction } } }) ∧
        (index ≠ g.cursor → exec (packet 3) s = refused .sequence (some g.cursor)) ∧
        (index = g.cursor → g.count < index + data.length / 4 →
          exec (packet 3) s = refused .overflow (some g.cursor)))) ∧
    (data.length % 8 = 0 →
      let g := s.tbs.glyphStage
      (g.state ≠ .loading → exec (packet 4) s = refused .sequence none) ∧
      (g.state = .loading →
        (index = g.cursor → index + data.length / 8 ≤ g.count →
          exec (packet 4) s = .next { s with tbs := { s.tbs with glyphStage := { g with
            cursor := g.cursor + data.length / 8, runningCrc := crcBytes g.runningCrc data,
            records := g.records ++ (records 8).mapIdx glyph } } }) ∧
        (index ≠ g.cursor → exec (packet 4) s = refused .sequence (some g.cursor)) ∧
        (index = g.cursor → g.count < index + data.length / 8 →
          exec (packet 4) s = refused .overflow (some g.cursor)))) ∧
    (∀ target : Byte, 5 ≤ target.toNat → exec (packet target) s = refused .field none)

/-- LOAD_END (R74, R90): a snap bank whose CRC matches starts its build, one whose CRC differs is DAMAGED with MISMATCH
(its content kept, log entry 22); a small target whose CRC matches is staged while LOCKED, and otherwise current at once
with COMMITTED, with one search request for DIRECTIONS, and one whose CRC differs is discarded with MISMATCH; a cursor
short of the count is refused with SHORT, no open load with ACTIVE or SEQUENCE, GHOST while a MOVE is live with IN_USE
(R91), and an unknown target with FIELD. A loaded glyph is its header's hotspot and its rows in order (R71). The values
of an IDLE staging record are log entry 28. -/
def Obligations.LoadEndClosesALoad : Prop :=
  (∀ (tag h l : Byte) (b : BankId) (s : State), Running s →
    let code : Byte := match b with
      | .snap0 => 0
      | .snap1 => 1
    let target : Target := match b with
      | .snap0 => .snap0
      | .snap1 => .snap1
    let bank := bankOf s.tbs b
    let packet (code : Byte) : Instr := .loadEnd tag [code, h, l]
    let refused (cause : Cause) : Host.Outcome State Fault Refusal := .next (offer tag (.error 0x12 cause none) s)
    let stored (t : Tbs) : State := { s with tbs := t }
    let told (target : Target) (e : TableEvent) (t : Tbs) : State := offer tag (.table (some target) e) (stored t)
    let tests (code : Byte) (state : StageState) (cursor count : Nat) (crc : Word16)
        (kept now gone : Host.Outcome State Fault Refusal) : Prop :=
      (state ≠ .loading → exec (packet code) s = refused .sequence) ∧
      (state = .loading → cursor < count → exec (packet code) s = refused .short) ∧
      (state = .loading → count ≤ cursor → crc = h ++ l → s.vpl.lock = .locked → exec (packet code) s = kept) ∧
      (state = .loading → count ≤ cursor → crc = h ++ l → s.vpl.lock ≠ .locked → exec (packet code) s = now) ∧
      (state = .loading → count ≤ cursor → crc ≠ h ++ l → exec (packet code) s = gone)
    let moving : Prop := s.gcu.live.kind = .move ∧ (s.gcu.live.state = .armed ∨ s.gcu.live.state = .tracking)
    let g := s.tbs.ghostStage
    let d := s.tbs.directionStage
    let y := s.tbs.glyphStage
    (bank.state = .loading → bank.count ≤ bank.cursor → bank.runningCrc = h ++ l →
      exec (packet code) s = .next (stored (setBank s.tbs b { bank with
        state := .building, acceptedCrc := some (h ++ l), loadTag := tag }))) ∧
    (bank.state = .loading → bank.count ≤ bank.cursor → bank.runningCrc ≠ h ++ l →
      exec (packet code) s = .next (told target .mismatch (setBank s.tbs b { bank with state := .damaged }))) ∧
    (bank.state = .loading → bank.cursor < bank.count → exec (packet code) s = refused .short) ∧
    (bank.state = .active → exec (packet code) s = refused .active) ∧
    (bank.state ≠ .loading → bank.state ≠ .active → exec (packet code) s = refused .sequence) ∧
    (moving → exec (packet 2) s = refused .inUse) ∧
    (¬moving → tests 2 g.state g.cursor g.count g.runningCrc
      (.next (stored { s.tbs with ghostStage := { g with state := .staged, loadTag := tag } }))
      (.next (told .ghost (.committed g.count)
        { s.tbs with ghosts := g.records, ghostStage := ⟨.idle, 0, 0, 0xFFFF, [], 0, 0⟩ }))
      (.next (told .ghost .mismatch { s.tbs with ghostStage := ⟨.idle, 0, 0, 0xFFFF, [], 0, 0⟩ }))) ∧
    tests 3 d.state d.cursor d.count d.runningCrc
      (.next (stored { s.tbs with directionStage := { d with state := .staged, loadTag := tag } }))
      (.next (searchRequest (told .directions (.committed d.count)
        { s.tbs with directions := d.records, directionStage := ⟨.idle, 0, 0, 0xFFFF, [], 0, 0⟩ })))
      (.next (told .directions .mismatch { s.tbs with directionStage := ⟨.idle, 0, 0, 0xFFFF, [], 0, 0⟩ })) ∧
    (∃ table : List Glyph, table.length = s.tbs.glyphs.length ∧
      (∀ i old, s.tbs.glyphs[i]? = some old → table[i]? = some (glyphAfter { y with state := .staged } i old)) ∧
      tests 4 y.state y.cursor y.count y.runningCrc
        (.next (stored { s.tbs with glyphStage := { y with state := .staged, loadTag := tag } }))
        (.next (told .glyph (.committed y.count)
          { s.tbs with glyphs := table, glyphStage := ⟨.idle, 0, 0, 0xFFFF, [], 0, 0⟩ }))
        (.next (told .glyph .mismatch { s.tbs with glyphStage := ⟨.idle, 0, 0, 0xFFFF, [], 0, 0⟩ }))) ∧
    (∀ code : Byte, 5 ≤ code.toNat → exec (packet code) s = refused .field)) ∧
  (∀ (hx hy : Nat) (rows : List (BitVec 64)),
    glyphOfRecords (.header hx hy :: rows.map GlyphRecord.row) = ⟨hx, hy, rows⟩)

/-- BUILD_COMPLETE (R78): the bank is READY with its directory, and BUILT carries the entry count, the number of void
entries and the greatest count of a cell; every other block is as it was. -/
def Obligations.BuildCompletesReady : Prop :=
  ∀ (b : BankId) (s : State), Running s → (bankOf s.tbs b).state = .building →
    let bank := bankOf s.tbs b
    let done := builtBank bank
    exec (.buildComplete b) s = .next (offer bank.loadTag (.table (some (bankTarget b))
        (.built bank.count (bank.entries.filter entryVoid).length done.largest))
      { s with tbs := setBank s.tbs b done }) ∧
    done.state = .ready ∧ done.entries = bank.entries ∧ done.acceptedCrc = bank.acceptedCrc ∧
    done.directory.length = 4096 ∧ (∀ c ∈ done.directory, c.count ≤ done.largest) ∧
    (∃ c ∈ done.directory, c.count = done.largest)

/-- A completed build (R76), an entry being void when its kind code is 7 or a coordinate is INDEFINITE (R67): every
non-void entry has the cell R42 gives; each directory cell holds how many entries are filed in it and how many in the
cells before it; its run of the cell index list holds their load indices, ascending; the list has one position for each
non-void entry and no duplicates. -/
def Obligations.DirectoryFilesEveryEntry : Prop :=
  ∀ (b : Bank),
    let cellOf (v origin : Int) : Nat := (clampInt 0 63 ((v - origin) / (2 ^ b.shift : Nat))).toNat
    (∀ e : SnapEntry, entryVoid e = true ↔
      e.attr.toNat / 8192 = 7 ∨ e.x.toInt = -8388608 ∨ e.y.toInt = -8388608) ∧
    (∀ e : SnapEntry, entryVoid e = false →
      (entryPoint e).x.value = e.x.toInt ∧ (entryPoint e).y.value = e.y.toInt) ∧
    (∀ e, entryCell b e = if entryVoid e then none
      else some (cellOf (entryPoint e).y.value b.originY * 64 + cellOf (entryPoint e).x.value b.originX)) ∧
    (builtBank b).directory.length = 4096 ∧
    (∀ c < 4096, (builtBank b).directory[c]? = some
      ⟨(b.entries.filter fun e => (entryCell b e).any fun d => decide (d < c)).length,
       (b.entries.filter fun e => decide (entryCell b e = some c)).length⟩) ∧
    (∀ c < 4096, cellEntries (builtBank b) c =
      (List.range b.entries.length).filter fun i => decide ((b.entries[i]?).bind (entryCell b) = some c)) ∧
    (builtBank b).cellIndex = (List.range 4096).flatMap (cellEntries (builtBank b)) ∧
    (builtBank b).cellIndex.length = (b.entries.filter fun e => !entryVoid e).length ∧
    (builtBank b).cellIndex.Nodup ∧
    (builtBank b).voidCount = (b.entries.filter entryVoid).length ∧
    (∀ c ∈ (builtBank b).directory, c.count ≤ (builtBank b).largest) ∧
    (∃ c ∈ (builtBank b).directory, c.count = (builtBank b).largest)

/-- ACTIVATE (R80, R81): of the ACTIVE bank, or of NONE with none ACTIVE, it removes any mark; of a READY bank with no
fate, or of NONE with a bank ACTIVE, it sets the mark while LOCKED, and outside LOCKED takes effect at once, with
ABORTED for a verify (R88), ACTIVATED and one search request; of a READY bank with a fate it is refused with IN_USE, of
any other bank with NOT_READY, and of an unknown target with FIELD. -/
def Obligations.ActivateMarksOrTakesEffect : Prop :=
  ∀ (tag : Byte) (b : BankId) (s : State), Running s →
    let code : Byte := match b with
      | .snap0 => 0
      | .snap1 => 1
    let bank := bankOf s.tbs b
    let effect (target : Option BankId) (t : State) : Prop :=
      activeBank t.tbs = target ∧
      (∀ a, bankOf t.tbs a = if target = some a then { bankOf s.tbs a with state := .active }
        else if activeBank s.tbs = some a then { bankOf s.tbs a with state := .ready } else bankOf s.tbs a) ∧
      t.tbs.mark = none ∧ t.tbs.snapDown = false ∧ t.tbs.verify = none ∧
      t.tbs.ghosts = s.tbs.ghosts ∧ t.tbs.directions = s.tbs.directions ∧ t.tbs.glyphs = s.tbs.glyphs ∧
      Offered s t ((s.tbs.verify.toList.map fun j => ⟨j.tag, .table (some (bankTarget j.bank)) .aborted⟩) ++
        [⟨tag, .table (target.map bankTarget) .activated⟩]) ∧
      SearchAsked s t ∧ t.pds.settings = s.pds.settings ∧ t.vpl = s.vpl ∧ t.gcu = s.gcu ∧ t.ovc = s.ovc
    (bank.state = .active → exec (.activate tag [code]) s = .next { s with tbs := { s.tbs with mark := none } }) ∧
    (activeBank s.tbs = none → exec (.activate tag [2]) s = .next { s with tbs := { s.tbs with mark := none } }) ∧
    (bank.state = .ready → bank.fate = none → s.vpl.lock = .locked →
      exec (.activate tag [code]) s = .next { s with tbs := { s.tbs with mark := some ⟨some b, tag⟩ } }) ∧
    (activeBank s.tbs ≠ none → s.vpl.lock = .locked →
      exec (.activate tag [2]) s = .next { s with tbs := { s.tbs with mark := some ⟨none, tag⟩ } }) ∧
    (bank.state = .ready → bank.fate = none → s.vpl.lock ≠ .locked → TablesOk s →
      ∃ t, exec (.activate tag [code]) s = .next t ∧ effect (some b) t) ∧
    (activeBank s.tbs ≠ none → s.vpl.lock ≠ .locked → TablesOk s →
      ∃ t, exec (.activate tag [2]) s = .next t ∧ effect none t) ∧
    (bank.state = .ready → bank.fate ≠ none →
      exec (.activate tag [code]) s = .next (offer tag (.error 0x13 .inUse none) s)) ∧
    (bank.state ≠ .ready → bank.state ≠ .active →
      exec (.activate tag [code]) s = .next (offer tag (.error 0x13 .notReady none) s)) ∧
    (∀ target : Byte, 3 ≤ target.toNat →
      exec (.activate tag [target]) s = .next (offer tag (.error 0x13 .field none) s))

/-- VERIFY, its interval and its end (R85, R86, R89): started on the ACTIVE bank, refused with NOT_READY with none
ACTIVE, passed over while one runs; the interval's expiry, the advance by which the counter reaches verify_interval
while LOCKED, starts one with tag 0, and elsewhere changes nothing (R181, R182; log entry 11); a matching CRC gives
VERIFIED, another damages the bank, its content kept (log entry 22), or gives it that fate under a pin, sets SNAP_DOWN,
leaves a mark on the other bank, the interval counter and the small tables, and gives DAMAGED. The CRC compared is that
of R75 continued from the job's over the stored entries in load order, each as its ten bytes (R87), so that a verify of
a bank that stands as its data bytes were loaded gives VERIFIED. The operand `upset` is the model's (log entry 8). -/
def Obligations.VerifyChecksTheActiveBank : Prop :=
  ∀ (tag : Byte) (b : BankId) (job : VerifyJob) (upset : Word16) (s : State), Running s →
    let interval := verifyInterval s.pds.settings
    (activeBank s.tbs = some b → s.tbs.verify = none →
      exec (.verify tag []) s = .next { s with tbs := { s.tbs with verify := some ⟨b, 0, 0xFFFF, tag⟩ } }) ∧
    (activeBank s.tbs = some b → s.tbs.verify = some job → exec (.verify tag []) s = .next s) ∧
    (activeBank s.tbs = none → exec (.verify tag []) s = .next (offer tag (.error 0x14 .notReady none) s)) ∧
    (s.vpl.lock = .locked → interval ≠ 0 → interval ≤ s.tbs.interval + 1 →
      exec .verifyIntervalExpiry s = .next { s with tbs := { s.tbs with
        interval := 0,
        verify := match activeBank s.tbs, s.tbs.verify with
          | some a, none => some ⟨a, 0, 0xFFFF, 0⟩
          | _, v => v } }) ∧
    (s.vpl.lock ≠ .locked ∨ interval = 0 ∨ s.tbs.interval + 1 < interval → exec .verifyIntervalExpiry s = .next s) ∧
    (let entries := (bankOf s.tbs job.bank).entries
    verifyCrc s.tbs job upset = crcBytes job.crc ((entries.drop job.next).flatMap bytesOfEntry) ^^^ upset) ∧
    (∀ (n : Nat) (data : List Byte), data.length = 10 * n → s.tbs.verify = some ⟨b, 0, 0xFFFF, tag⟩ →
      (bankOf s.tbs b).entries = (pieces 10 n data).map entryOfBytes →
      (bankOf s.tbs b).acceptedCrc = some (crcBytes 0xFFFF data) →
      exec (.verifyComplete 0) s = .next (offer tag (.table (some (bankTarget b)) .verified)
        { s with tbs := { s.tbs with verify := none } })) ∧
    (s.tbs.verify = some job → some (verifyCrc s.tbs job upset) = (bankOf s.tbs job.bank).acceptedCrc →
      exec (.verifyComplete upset) s = .next (offer job.tag (.table (some (bankTarget job.bank)) .verified)
        { s with tbs := { s.tbs with verify := none } })) ∧
    (s.tbs.verify = some job → some (verifyCrc s.tbs job upset) ≠ (bankOf s.tbs job.bank).acceptedCrc →
      ∃ t, exec (.verifyComplete upset) s = .next (offer job.tag (.table (some (bankTarget job.bank)) .damaged) t) ∧
        t = { s with tbs := t.tbs } ∧ t.tbs.verify = none ∧ t.tbs.snapDown = true ∧ t.tbs.pin = s.tbs.pin ∧
        t.tbs = { s.tbs with
          bank0 := t.tbs.bank0, bank1 := t.tbs.bank1, mark := t.tbs.mark, verify := none, snapDown := true } ∧
        (s.tbs.mark.map Mark.target ≠ some (some job.bank) → t.tbs.mark = s.tbs.mark) ∧
        (s.tbs.pin ≠ some job.bank → bankOf t.tbs job.bank =
          { bankOf s.tbs job.bank with state := .damaged, fate := none }) ∧
        (s.tbs.pin = some job.bank → bankOf t.tbs job.bank =
          { bankOf s.tbs job.bank with state := .ready, fate := some .damaged }) ∧
        (∀ a, a ≠ job.bank → bankOf t.tbs a = bankOf s.tbs a))

/-- The stored entries give back the bytes they were loaded from (R67, R87, R177): so a verify of an undisturbed bank
forms the CRC its LOAD_DATA packets formed. The CRC is R75's: polynomial 0x2D17, each byte from its most significant bit,
no reflection and no inversion. An entry's bytes are x, y, the attribute word and the handle, high byte first. -/
def Obligations.StoredEntriesGiveBackTheirBytes : Prop :=
  (∀ (n : Nat) (data : List Byte), data.length = 10 * n →
    ((pieces 10 n data).map entryOfBytes).flatMap bytesOfEntry = data) ∧
  (∀ e : SnapEntry, entryOfBytes (bytesOfEntry e) = e) ∧
  (∀ (crc : Word16) (first second : List Byte), crcBytes crc (first ++ second) = crcBytes (crcBytes crc first) second) ∧
  (∀ (crc : Word16) (bytes : List Byte),
    let bits (b : Byte) : List Bool :=
      [b.getLsbD 7, b.getLsbD 6, b.getLsbD 5, b.getLsbD 4, b.getLsbD 3, b.getLsbD 2, b.getLsbD 1, b.getLsbD 0]
    let feed (c : Word16) (bit : Bool) : Word16 := if c.getLsbD 15 = bit then c <<< 1 else (c <<< 1) ^^^ 0x2D17
    crcBytes crc bytes = (bytes.flatMap bits).foldl feed crc) ∧
  (∀ e : SnapEntry, bytesOfEntry e =
    [e.x.extractLsb' 16 8, e.x.extractLsb' 8 8, e.x.extractLsb' 0 8, e.y.extractLsb' 16 8, e.y.extractLsb' 8 8,
     e.y.extractLsb' 0 8, e.attr.extractLsb' 8 8, e.attr.extractLsb' 0 8, e.handle.extractLsb' 8 8,
     e.handle.extractLsb' 0 8]) ∧
  crcBytes 0xFFFF [0x00] = 0x50C5


/-! ## Snap search -/

/-- A search request finds the engine idle and starts a search on the values of that moment, or marks a rerun; a
publication replaces the published result, releases the pin and meets the bank's fate (a DAMAGED bank keeps its content,
log entry 22; one that becomes EMPTY holds the values of log entry 28), hands over TRACK when track is on, and reruns or
goes idle (R83, R84, R99, R100, R113, R167). The result is formed whole at the publication (log entry 7), by the phases:
the raw point when the pointer is absent or its point not VALID (R103); and where no object is found, the constrained
point of R45 to R49 when the constraint applies (R109, R110), else the grid point of R44 with the grid on, else the raw
point (R111). -/
def Obligations.SearchesStartAndPublish : Prop :=
  (∀ s : State, s.sse.flight = none → ∃ p : Progress, p.count = 0 ∧ p.best = none ∧
    searchRequest s = { s with
      sse := ⟨some ⟨takeSnapshot s, p⟩, false, s.sse.published⟩, tbs := { s.tbs with pin := activeBank s.tbs } }) ∧
  (∀ (s : State) (f : Flight), s.sse.flight = some f →
    searchRequest s = { s with sse := { s.sse with rerun := true } }) ∧
  (∀ (s : State) (f : Flight), Running s → s.sse.flight = some f →
    let r := searchResult s.tbs f
    let track : Report := ⟨0, .track r⟩
    let queue : List Report :=
      if trackOn s.pds.settings = false then s.rlt.queue
      else if s.rlt.queue.any isTrack then s.rlt.queue.map fun q => if isTrack q then track else q
      else if 16 ≤ s.rlt.queue.length then s.rlt.queue
      else s.rlt.queue ++ [track]
    let met (b : BankId) : Bank := match (bankOf s.tbs b).fate with
      | none => bankOf s.tbs b
      | some .empty => emptyBank
      | some .damaged => { bankOf s.tbs b with state := .damaged, fate := none }
    let released : Tbs := match s.tbs.pin with
      | none => s.tbs
      | some b => { setBank s.tbs b (met b) with pin := none }
    let published : State := { s with
      sse := ⟨none, false, r⟩, tbs := released, rlt := { s.rlt with queue := queue } }
    exec .searchPublish s = .next (if s.sse.rerun then searchRequest published else published)) ∧
  (∀ (t : Tbs) (f : Flight),
    let n := f.snapshot
    let r := searchResult t f
    let p := n.sample.point
    let axis (v : Int) : Coord :=
      if v < -8388607 then ⟨-8388607, .offSheet⟩ else if 8388607 < v then ⟨8388607, .offSheet⟩ else ⟨v, .valid⟩
    let grid (origin pitch v : Int) : Int := origin + pitch * Int.floor ((2 * (v - origin) + pitch : ℚ) / (2 * pitch))
    let ortho : List Direction := [⟨16384, 0⟩, ⟨0, 16384⟩, ⟨-16384, 0⟩, ⟨0, -16384⟩]
    let directions : List Direction := if n.constraint = 1 then ortho else n.directions
    let applies : Prop := n.gestureState = .tracking ∧ n.gestureKind ∈ [.line, .chain, .move] ∧
      (n.constraint = 1 ∨ n.constraint = 2 ∧ n.directions ≠ [])
    r.sequence = n.sample.sequence ∧ r.raw = p ∧ r.proximity = n.sample.proximity ∧
    (r.source = .object ↔ r.object ≠ none) ∧ (n.aperture ≤ 0 ∨ n.bank = none → r.source ≠ .object) ∧
    (n.sample.proximity = false ∨ pointValid p = false → r.source = .raw ∧ r.point = p ∧ r.truncated = false) ∧
    (n.sample.proximity = true → pointValid p = true → r.source ≠ .object →
      (∀ a, applies → n.anchor = some a → pointValid a = true →
        let vx := p.x.value - a.x.value
        let vy := p.y.value - a.y.value
        let dotOf (u : Direction) : Int := vx * u.ux + vy * u.uy
        r.source = .constrained ∧
        (vx = 0 ∧ vy = 0 → r.point = a) ∧
        (¬(vx = 0 ∧ vy = 0) → ∃ (k : Nat) (u : Direction), directions[k]? = some u ∧
          (∀ j w, directions[j]? = some w → dotOf w ≤ dotOf u ∧ (j < k → dotOf w < dotOf u)) ∧
          (let length : Int := Int.floor ((dotOf u + 8192 : ℚ) / 16384)
          let stepped : Int := if 0 < n.lengthStep
            then n.lengthStep * Int.floor ((2 * length + n.lengthStep : ℚ) / (2 * n.lengthStep)) else length
          r.point = ⟨axis (a.x.value + Int.floor ((stepped * u.ux + 8192 : ℚ) / 16384)),
            axis (a.y.value + Int.floor ((stepped * u.uy + 8192 : ℚ) / 16384))⟩))) ∧
      (¬applies → n.gridEnable ≠ 0 → 1 ≤ n.gridPitchX → 1 ≤ n.gridPitchY →
        r.source = .grid ∧
        r.point = ⟨axis (grid n.gridOriginX n.gridPitchX p.x.value), axis (grid n.gridOriginY n.gridPitchY p.y.value)⟩) ∧
      (¬applies → n.gridEnable = 0 → r.source = .raw ∧ r.point = p)))

/-- The guarantee of R108: a published result with source OBJECT names an entry of the bank it was computed on, of an
enabled kind and layer, its handle not excluded, its stored point the result point, within the aperture on the screen.
That the search in flight has read nothing yet is log entry 7. -/
def Obligations.ObjectResultsNameACandidate : Prop :=
  ∀ (s t : State) (f : Flight), Running s → s.sse.flight = some f → f.progress.count = 0 → f.progress.best = none →
    exec .searchPublish s = .next t → t.sse.published.source = .object →
    let n := f.snapshot
    n.sample.proximity = true ∧ pointValid n.sample.point = true ∧
    ∃ (b : BankId) (o : ObjectPart) (e : SnapEntry) (p q : Int × Int),
      n.bank = some b ∧ t.sse.published.object = some o ∧ (bankOf s.tbs b).entries[o.index]? = some e ∧
      snapKindOf (entryKindCode e) = some o.kind ∧ o.layer = entryLayer e ∧ o.handle = e.handle ∧ o.bank = b ∧
      maskHas n.kindEnable (entryKindCode e) = true ∧ maskHas n.layerMask (entryLayer e) = true ∧
      e.handle ∉ n.exclusions ∧ t.sse.published.point = entryPoint e ∧
      project n.view n.sample.point = some p ∧ project n.view (entryPoint e) = some q ∧
      (o.dist2 : Int) = dist2 p q ∧ (o.dist2 : Int) ≤ n.aperture * n.aperture

/-- R41, R43, R76, R107 and R108 together: over a bank as a build left it, a search that is not truncated finds, of all
the bank's entries and not only those of its rectangle, one that no entry beats that passes the tests of R107: its kind
and layer enabled, its handle not excluded, its point VALID, and its screen position (R38) within the aperture. That the
search in flight has read nothing yet is log entry 7. -/
def Obligations.UntruncatedSearchFindsTheBest : Prop :=
  ∀ (s t : State) (f : Flight) (b : BankId) (loaded : Bank) (i : Nat) (e : SnapEntry),
    Running s → s.sse.flight = some f → f.progress.count = 0 → f.progress.best = none →
    let n := f.snapshot
    let kind := e.attr.toNat / 8192
    let layer := e.attr.toNat % 64
    let sx (x : Int) : Int := ((x - n.view.originX) * n.view.zoom + 32768) / 65536
    let sy (y : Int) : Int := ((n.view.originY - y) * n.view.zoom + 32768) / 65536
    let d2 : Int := (sx e.x.toInt - sx n.sample.point.x.value) ^ 2 + (sy e.y.toInt - sy n.sample.point.y.value) ^ 2
    n.sample.proximity = true → pointValid n.sample.point = true → n.bank = some b →
    1 ≤ n.aperture → n.aperture ≤ 63 → 1 ≤ n.view.zoom → n.view.zoom ≤ 1048576 →
    bankOf s.tbs b = { builtBank loaded with state := (bankOf s.tbs b).state, fate := (bankOf s.tbs b).fate } →
    loaded.entries[i]? = some e →
    kind ≤ 6 → n.kindEnable.toNat.testBit kind = true → n.layerMask.toNat.testBit layer = true →
    e.handle ∉ n.exclusions → e.x.toInt ≠ -8388608 → e.y.toInt ≠ -8388608 → d2 ≤ n.aperture ^ 2 →
    exec .searchPublish s = .next t → t.sse.published.truncated = false →
    ∃ o, t.sse.published.object = some o ∧
      ((o.dist2 : Int) < d2 ∨
        (o.dist2 : Int) = d2 ∧ (snapKindCode o.kind < kind ∨ snapKindCode o.kind = kind ∧ o.index ≤ i))

/-- TRUNCATED (R103, R104, R106): clear when the object phase does not run; and when it runs, set exactly when the cell
rectangle holds more entries than the budget. That the search in flight has read nothing yet is log entry 7. -/
def Obligations.TruncatedMeansTheBudgetRanOut : Prop :=
  ∀ (s t : State) (f : Flight), Running s → s.sse.flight = some f → f.progress.count = 0 → 1 ≤ f.snapshot.budget →
    exec .searchPublish s = .next t →
    let n := f.snapshot
    let runs : Prop := n.sample.proximity = true ∧ pointValid n.sample.point = true ∧ 0 < n.aperture
    (∀ b, runs → n.bank = some b →
      (t.sse.published.truncated = true ↔
        n.budget < (rectEntries (bankOf s.tbs b) (objectRect (bankOf s.tbs b) n)).length)) ∧
    (¬runs ∨ n.bank = none → t.sse.published.truncated = false)

/-- The cover radius (R41): the least whole number of sheet units not below (r + 1) × 65,536 / Z, from 1 to 4,194,304; and
every point whose screen position is inside the aperture lies within it on both axes. -/
def Obligations.CoverHoldsTheAperture : Prop :=
  ∀ (r : Int) (v : View), 0 ≤ r → r ≤ 63 → 1 ≤ v.zoom → v.zoom ≤ 1048576 →
    let ra := coverRadius r v.zoom
    (r + 1) * 65536 ≤ ra * v.zoom ∧ (ra - 1) * v.zoom < (r + 1) * 65536 ∧ 1 ≤ ra ∧ ra ≤ 4194304 ∧
    ∀ (p q : Point) (a b : Int × Int), project v p = some a → project v q = some b → dist2 a b ≤ r * r →
      p.x.value - ra ≤ q.x.value ∧ q.x.value ≤ p.x.value + ra ∧
      p.y.value - ra ≤ q.y.value ∧ q.y.value ≤ p.y.value + ra

/-! ## Gestures -/

/-- GESTURE (R121): with at most eight handles, from IDLE, it begins a gesture ARMED without an anchor or TRACKING on a
VALID anchor, with the epoch advanced and one search request; the four tests refuse it in their order. -/
def Obligations.GestureBegins : Prop :=
  ∀ (tag code flags x2 x1 x0 y2 y1 y0 : Byte) (handles : List Word16) (s : State), Running s →
    handles.length ≤ 116 →
    let tail : List Byte := handles.flatMap fun h => [h.extractLsb' 8 8, h.extractLsb' 0 8]
    let anchor : Point := ⟨storedCoord (x2 ++ x1 ++ x0), storedCoord (y2 ++ y1 ++ y0)⟩
    let armed : Instr := .gesture tag (code :: flags :: tail)
    let tracking : Instr := .gesture tag (code :: flags :: x2 :: x1 :: x0 :: y2 :: y1 :: y0 :: tail)
    let begun (k : GestureKind) (state : GestureState) (vertices : List Point) : State :=
      searchRequest { s with gcu := { s.gcu with live :=
        ⟨k, state, vertices, flags.getLsbD 0 && decide (k = .chain), handles, s.gcu.live.epoch + 1⟩ } }
    let refused (cause : Cause) : State := offer tag (.error 0x20 cause none) s
    (∀ k, gestureKindOf code = some k → handles.length ≤ 8 → s.gcu.live.state = .idle →
      (flags.getLsbD 1 = false → exec armed s = .next (begun k .armed [])) ∧
      (flags.getLsbD 1 = true → k ≠ .point → pointValid anchor = true →
        exec tracking s = .next (begun k .tracking [anchor])) ∧
      (flags.getLsbD 1 = true → k = .point ∨ pointValid anchor = false → exec tracking s = .next (refused .state))) ∧
    (8 < handles.length →
      (flags.getLsbD 1 = false → exec armed s = .next (refused .length)) ∧
      (flags.getLsbD 1 = true → exec tracking s = .next (refused .length))) ∧
    (handles.length ≤ 8 → gestureKindOf code = none ∨ s.gcu.live.state ≠ .idle →
      (flags.getLsbD 1 = false → exec armed s = .next (refused .state)) ∧
      (flags.getLsbD 1 = true → exec tracking s = .next (refused .state)))

/-- COMMIT from a packet and from a button (R122 to R128): the shown result's point joins the gesture, with COMMITTED,
or the commit is refused; the duplicate test is R35's equality with the last vertex. In IDLE and by each failed test a
packet is refused with STATE; a full queue gives its TRACK for the place, and with none a packet's commit is refused;
the gesture ends by its kind with GESTURE_DONE behind COMMITTED. A button's reports carry the button and tag 0. -/
def Obligations.CommitPlacesTheShownPoint : Prop :=
  ∀ (tag : Byte) (i : Fin 4) (s : State), Running s → ContextOk s.gcu.live →
    let g := s.gcu.live
    let r := if s.vpl.lock = .locked ∧ s.ovc.latch.current = true then s.ovc.latch.shown else s.sse.published
    let refused : State := offer tag (.error 0x21 .state none) s
    let same (p q : Point) : Prop := p.x.cls = .valid ∧ p.y.cls = .valid ∧ q.x.cls = .valid ∧ q.y.cls = .valid ∧
      p.x.value = q.x.value ∧ p.y.value = q.y.value
    let duplicate : Prop := g.state = .tracking ∧ ∃ v, g.vertices.getLast? = some v ∧ same r.point v
    let passes : Prop := g.state ≠ .idle ∧ pointValid r.point = true ∧ r.proximity = true ∧ ¬duplicate
    let vertices := g.vertices ++ [r.point]
    let goesOn : Prop := g.state = .armed ∧ g.kind ≠ .point ∨ g.kind = .chain ∧ g.vertices.length < 15
    let filled (tag : Byte) (o : Origin) (queue : List Report) : State := { s with rlt := { s.rlt with
      queue := queue ++ [⟨tag, .committed o (g.epoch + 1) g.vertices.length r⟩] } }
    let after (tag : Byte) (o : Origin) (queue : List Report) : State :=
      searchRequest { filled tag o queue with gcu := { s.gcu with live :=
        { g with state := .tracking, vertices := vertices, epoch := g.epoch + 1 } } }
    let ended (tag : Byte) (o : Origin) (queue : List Report) : State :=
      searchRequest { offer tag (.gestureDone o (g.epoch + 1) g.kind vertices.length
          (if g.kind = .chain then .full else .normal) g.close) (filled tag o queue) with
        gcu := { s.gcu with live := ⟨g.kind, .idle, [], false, [], g.epoch + 1⟩ } }
    let placed (queue : List Report) : Prop :=
      (goesOn → exec (.commit tag []) s = .next (after tag .packet queue) ∧
        takePress i .commit s = after 0 (.button i) queue) ∧
      (¬goesOn → exec (.commit tag []) s = .next (ended tag .packet queue) ∧
        takePress i .commit s = ended 0 (.button i) queue)
    (¬passes → exec (.commit tag []) s = .next refused) ∧
    (passes → s.rlt.queue.length < 16 → placed s.rlt.queue) ∧
    (passes → 16 ≤ s.rlt.queue.length → s.rlt.queue.any isTrack = true → placed (s.rlt.queue.eraseP isTrack)) ∧
    (passes → 16 ≤ s.rlt.queue.length → s.rlt.queue.any isTrack = false → exec (.commit tag []) s = .next s.dropped)

/-- END and CANCEL, from packets and from buttons (R129, R130): in IDLE a packet is refused with STATE and a press gives a
BUTTON report; END of a chain in TRACKING with two or more vertices gives GESTURE_DONE; every other END and each CANCEL
gives CANCELLED; and with either the gesture becomes IDLE, its kind kept, with one search request. -/
def Obligations.EndAndCancelEndTheGesture : Prop :=
  ∀ (tag : Byte) (b : Fin 4) (s : State), Running s →
    let g := s.gcu.live
    let r := if s.vpl.lock = .locked ∧ s.ovc.latch.current = true then s.ovc.latch.shown else s.sse.published
    let idled (tag : Byte) (body : ReportBody) : State := searchRequest { offer tag body s with
      gcu := { s.gcu with live := ⟨g.kind, .idle, [], false, [], g.epoch + 1⟩ } }
    let cancelled (tag : Byte) (o : Origin) : State :=
      idled tag (.cancelled o (g.epoch + 1) g.kind g.vertices.length .request)
    let done (tag : Byte) (o : Origin) : State :=
      idled tag (.gestureDone o (g.epoch + 1) g.kind g.vertices.length .normal g.close)
    let finished : Prop := g.kind = .chain ∧ g.state = .tracking ∧ 2 ≤ g.vertices.length
    (g.state = .idle →
      exec (.endGesture tag []) s = .next (offer tag (.error 0x22 .state none) s) ∧
      exec (.cancel tag []) s = .next (offer tag (.error 0x23 .state none) s) ∧
      takePress b .finish s = offer 0 (.button b .finish r) s ∧ takePress b .cancel s = offer 0 (.button b .cancel r) s) ∧
    (g.state ≠ .idle →
      exec (.cancel tag []) s = .next (cancelled tag .packet) ∧ takePress b .cancel s = cancelled 0 (.button b)) ∧
    (finished →
      exec (.endGesture tag []) s = .next (done tag .packet) ∧ takePress b .finish s = done 0 (.button b)) ∧
    (g.state ≠ .idle → ¬finished →
      exec (.endGesture tag []) s = .next (cancelled tag .packet) ∧ takePress b .finish s = cancelled 0 (.button b))

/-- The presses of a frame (R60, R61): no press leaves the part as the levels are stored, and the buttons that go down
are handed over one after the other in ascending order, each with its mapped action. A press (R124, R125, R131): NONE
does nothing, REPORT and every action in IDLE give a BUTTON report, a refused commit gives COMMIT_REFUSED with its cause
(a duplicate by R35), and a commit for which no place can be had gives the composer its refusal notice alone (R144). -/
def Obligations.PressesAreHandedOverInOrder : Prop :=
  ∀ (levels : BitVec 4) (b : Fin 4) (s : State),
    let stored : State := { s with ptu := { s.ptu with buttons := levels } }
    let press (b : Fin 4) (u : State) : State :=
      if levels.getLsbD b.val ∧ s.ptu.buttons.getLsbD b.val = false then takePress b (buttonAction s.pds.settings b) u
      else u
    let g := s.gcu.live
    let r := if s.vpl.lock = .locked ∧ s.ovc.latch.current = true then s.ovc.latch.shown else s.sse.published
    let same (p q : Point) : Prop := p.x.cls = .valid ∧ p.y.cls = .valid ∧ q.x.cls = .valid ∧ q.y.cls = .valid ∧
      p.x.value = q.x.value ∧ p.y.value = q.y.value
    let duplicate : Prop := g.state = .tracking ∧ ∃ v, g.vertices.getLast? = some v ∧ same r.point v
    let refused (cause : RefuseCause) : State := offer 0 (.commitRefused b cause) s
    handPresses levels s = press 3 (press 2 (press 1 (press 0 stored))) ∧
    takePress b .none s = s ∧
    takePress b .report s = offer 0 (.button b .report r) s ∧
    (g.state = .idle → ∀ a, a ≠ .none → takePress b a s = offer 0 (.button b a r) s) ∧
    (g.state ≠ .idle →
      (pointValid r.point = false → takePress b .commit s = refused .invalid) ∧
      (pointValid r.point = true → r.proximity = false → takePress b .commit s = refused .absent) ∧
      (pointValid r.point = true → r.proximity = true → duplicate → takePress b .commit s = refused .duplicate) ∧
      (pointValid r.point = true → r.proximity = true → ¬duplicate → 16 ≤ s.rlt.queue.length →
        s.rlt.queue.any isTrack = false →
        takePress b .commit s = { s with ovc := { s.ovc with forcedOff := blinkPeriod s.pds.settings } }))

/-- PARK, COPY, RESUME and DISCARD (R133 to R136): what each moves, its CONTEXT report, its search request if it changes
the live gesture, and its refusal with STATE; and a RESUME gives back what a PARK set aside, but for the epoch. -/
def Obligations.ContextOperationsMoveContexts : Prop :=
  ∀ (tag : Byte) (i : Fin 4) (s : State), Running s →
    let g := s.gcu.live
    let refused : State := offer tag (.error 0x24 .state none) s
    let told (op : ContextOp) (held : Bool) (c : Gesture) (u : State) : State :=
      offer tag (.context op i held c.kind c.state c.vertices.length c.epoch u.gcu.live.epoch) u
    let withLive (slots : Gcu) (live : Gesture) : State := { s with gcu := { slots with live := live } }
    (g.state ≠ .idle → slotOf s.gcu i = none →
      exec (.park tag i) s = .next (searchRequest (told .park true g
        (withLive (setSlot s.gcu i (some g)) ⟨g.kind, .idle, [], false, [], g.epoch + 1⟩))) ∧
      exec (.copy tag i) s = .next (told .copy true g (withLive (setSlot s.gcu i (some g)) g))) ∧
    (g.state = .idle ∨ slotOf s.gcu i ≠ none →
      exec (.park tag i) s = .next refused ∧ exec (.copy tag i) s = .next refused) ∧
    (∀ c, slotOf s.gcu i = some c →
      (g.state = .idle → exec (.resume tag i) s = .next (searchRequest (told .resume false c
        (withLive (setSlot s.gcu i none) { c with epoch := g.epoch + 1 })))) ∧
      (g.state ≠ .idle → exec (.resume tag i) s = .next refused) ∧
      exec (.discard tag i) s = .next (told .discard false c (withLive (setSlot s.gcu i none) g))) ∧
    (slotOf s.gcu i = none →
      exec (.resume tag i) s = .next refused ∧ exec (.discard tag i) s = .next refused) ∧
    (∀ j, slotOf (setSlot s.gcu i (some g)) j = if j = i then some g else slotOf s.gcu j) ∧
    (g.state ≠ .idle → slotOf s.gcu i = none → ∀ tag2, ∃ t u, exec (.park tag i) s = .next t ∧
      exec (.resume tag2 i) t = .next u ∧ u.gcu = { s.gcu with live := { g with epoch := g.epoch + 2 } })

/-- R120: a packet or event changes the live gesture only as it advances the epoch, by exactly one. Left out: power-on
and the pin's release, which set the epoch to 0 (R137), and the commands that can hand over several events: a tablet
frame, its last byte, and a POINTER packet, whether taken as a packet or completed by the control bytes of a cycle with
VCX high and VDE low. -/
def Obligations.EpochCountsTheChanges : Prop :=
  ∀ (c : Instr) (s t : State), WellFormed c = true → isPowerOrPin c = false →
    (∀ vd vhs vvs, c ≠ .controlByteCycle vd vhs vvs) → (∀ vd vhs, c ≠ .frameStart vd vhs false true) →
    (∀ tag payload, c ≠ .pointer tag payload) →
    (∀ b, c ≠ .tabletByte b) → (∀ b0 b1 b2 b3 b4 b5 b6 b7, c ≠ .tabletFrame b0 b1 b2 b3 b4 b5 b6 b7) →
    exec c s = .next t → t.gcu.live = s.gcu.live ∨ t.gcu.live.epoch = s.gcu.live.epoch + 1

/-! ## Overlay -/

/-- R151: the pixels of a segment do not depend on which endpoint is listed first, both endpoints are lit, the dash
phase is counted from the first; each step of the major axis lights exactly one pixel, the nearest to the exact line, a
tie rounded up. A segment and the crosshair lines, which span the frame, are dashed by their class's style (R152, R155)
and have the extents of R145. -/
def Obligations.SegmentsAreLitFromEitherEnd : Prop :=
  (∀ xa ya xb yb x y : Int,
    ((segmentPhase xa ya xb yb x y).isSome = (segmentPhase xb yb xa ya x y).isSome) ∧
    segmentPhase xa ya xb yb xa ya = some 0 ∧
    segmentPhase xa ya xb yb xb yb = some (max (xb - xa).natAbs (yb - ya).natAbs) ∧
    (∀ t, segmentPhase xa ya xb yb x y = some t →
      t = max (x - xa).natAbs (y - ya).natAbs ∧
      min xa xb ≤ x ∧ x ≤ max xa xb ∧ min ya yb ≤ y ∧ y ≤ max ya yb ∧
      2 * ((x - xa) * (yb - ya) - (y - ya) * (xb - xa)).natAbs ≤ max (xb - xa).natAbs (yb - ya).natAbs) ∧
    ((yb - ya).natAbs ≤ (xb - xa).natAbs → xb ≠ xa → ((segmentPhase xa ya xb yb x y).isSome = true ↔
      min xa xb ≤ x ∧ x ≤ max xa xb ∧ y = Int.floor (ya + (x - xa) * (yb - ya) / (xb - xa) + 1 / 2 : ℚ))) ∧
    ((xb - xa).natAbs < (yb - ya).natAbs → ((segmentPhase xa ya xb yb x y).isSome = true ↔
      min ya yb ≤ y ∧ y ≤ max ya yb ∧ x = Int.floor (xa + (y - ya) * (xb - xa) / (yb - ya) + 1 / 2 : ℚ))) ∧
    (xb = xa → yb = ya → ((segmentPhase xa ya xb yb x y).isSome = true ↔ x = xa ∧ y = ya))) ∧
  (∀ (l : FrameLatch) (c : OverlayClass) (xa ya xb yb sx sy x y : Int),
    let style : Style := match c with
      | .cursor => l.styleCursor
      | .marker => l.styleMarker
      | .rubber => l.styleRubber
      | .ghost => l.styleGhost
    let dashed (t : Nat) : Prop :=
      style.dashPeriod ≤ 1 ∨ style.dashPeriod ≤ style.dashOn ∨ (t : Int) % style.dashPeriod < style.dashOn
    let lit (s : Shape) (p : Prop) : Prop := (p → litCode l ⟨c, s⟩ x y = 1) ∧ (¬p → litCode l ⟨c, s⟩ x y = 0)
    lit (.segment xa ya xb yb) (∃ t, segmentPhase xa ya xb yb x y = some t ∧ dashed t) ∧
    lit (.horizontal sx sy) (y = sy ∧ 0 ≤ x ∧ x < l.width ∧ dashed (x - sx).natAbs) ∧
    lit (.vertical sx sy) (x = sx ∧ 0 ≤ y ∧ y < l.height ∧ dashed (y - sy).natAbs) ∧
    (onLine l ⟨c, .segment xa ya xb yb⟩ y = true ↔ min ya yb ≤ y ∧ y ≤ max ya yb) ∧
    (onLine l ⟨c, .horizontal sx sy⟩ y = true ↔ y = sy) ∧
    (onLine l ⟨c, .vertical sx sy⟩ y = true ↔ 0 ≤ y ∧ y < l.height))

/-- R50 and R153: the radius is the largest r with (2r − 1)² ≤ 4D, the ring of a rubber-band circle passes through the
pixel of its free point, and it reaches exactly the rows its vertical extent names. A circle is solid, and a glyph
placement lays its latched cells with the hotspot on the point, each pixel lit with the code of its cell (R154, R177).
-/
def Obligations.CirclesPassThroughTheFreePoint : Prop :=
  (∀ d : Nat, 0 < d →
    (2 * (circleRadius d : Int) - 1) * (2 * circleRadius d - 1) ≤ 4 * d ∧
    (4 * d : Int) < (2 * (circleRadius d : Int) + 1) * (2 * circleRadius d + 1) ∧ 1 ≤ circleRadius d) ∧
  circleRadius 0 = 0 ∧
  (∀ c f : Int × Int, c ≠ f → circleLit c.1 c.2 (circleRadius (dist2 c f).toNat) f.1 f.2 = true) ∧
  (∀ (cx cy y : Int) (r : Nat), 1 ≤ r → ((∃ x, circleLit cx cy r x y = true) ↔ cy - r ≤ y ∧ y ≤ cy + r)) ∧
  (∀ (l : FrameLatch) (c : OverlayClass) (cx cy x y : Int) (r : Nat),
    let ring : Prop := (2 * (r : Int) - 1) ^ 2 ≤ 4 * ((x - cx) ^ 2 + (y - cy) ^ 2) ∧
      4 * ((x - cx) ^ 2 + (y - cy) ^ 2) < (2 * (r : Int) + 1) ^ 2
    (ring → litCode l ⟨c, .circle cx cy r⟩ x y = 1) ∧ (¬ring → litCode l ⟨c, .circle cx cy r⟩ x y = 0) ∧
    (onLine l ⟨c, .circle cx cy r⟩ y = true ↔ cy - r ≤ y ∧ y ≤ cy + r)) ∧
  (∀ (l : FrameLatch) (c : OverlayClass) (n : Nat) (g : Glyph) (px py x y : Int), l.glyphs[n]? = some g →
    let gx := x - (px - g.hx)
    let gy := y - (py - g.hy)
    (0 ≤ gx → gx ≤ 31 → 0 ≤ gy → gy ≤ 31 → ∀ row, g.rows[gy.toNat]? = some row →
      litCode l ⟨c, .glyph n px py⟩ x y =
        (if row.getLsbD (63 - 2 * gx.toNat) then 2 else 0) + (if row.getLsbD (62 - 2 * gx.toNat) then 1 else 0)) ∧
    (¬(0 ≤ gx ∧ gx ≤ 31 ∧ 0 ≤ gy ∧ gy ≤ 31) → litCode l ⟨c, .glyph n px py⟩ x y = 0) ∧
    (onLine l ⟨c, .glyph n px py⟩ y = true ↔ 0 ≤ gy ∧ gy ≤ 31))

/-- R156 to R158: the answer is NONE exactly when no primitive among the first 48 of the line lights the pixel;
otherwise it is given by one that does, with none of an earlier class, and none before it of its own class, lighting it;
and the frame overrun count is the number of lines that have more than 48 (R159). The display list is formed from the
latch by R142 and R145 to R150, with the projection of R38 and the ghost displacement of R51; its classes stand in
order, and a class that is withheld places nothing. -/
def Obligations.AnswersFollowClassAndListOrder : Prop :=
  (∀ (o : Ovc) (x y : Int),
    let part := (o.display.filter fun p => onLine o.latch p y).take 48
    let lights (p : Primitive) : Prop := litCode o.latch p x y ≠ 0
    let rank : OverlayClass → Nat
      | .cursor => 0
      | .marker => 1
      | .rubber => 2
      | .ghost => 3
    (answer o x y = .none ↔ ∀ p ∈ part, ¬lights p) ∧
    (∀ q ∈ part, lights q → ∃ (before after : List Primitive) (p : Primitive), part = before ++ p :: after ∧ lights p ∧
      (∀ q ∈ part, lights q → rank p.cls ≤ rank q.cls) ∧ (∀ q ∈ before, lights q → q.cls ≠ p.cls) ∧
      answer o x y =
        (if (latchStyle o.latch p.cls).op ≠ 0 ∨ litCode o.latch p x y = 3 then .invert
         else if litCode o.latch p x y = 2 then .color (BitVec.ofInt 24 (latchStyle o.latch p.cls).colorB)
         else .color (BitVec.ofInt 24 (latchStyle o.latch p.cls).colorA)))) ∧
  (∀ (l : FrameLatch) (list : List Primitive), overrunCount l list =
    ((List.range l.height).countP fun y => decide (48 < list.countP fun p => onLine l p (y : Nat)))) ∧
  (∀ (l : FrameLatch) (forced : Bool),
    let shapes (c : OverlayClass) : List Shape :=
      ((displayList l forced).filter fun p => decide (p.cls = c)).map Primitive.shape
    let style : OverlayClass → Style
      | .cursor => l.styleCursor
      | .marker => l.styleMarker
      | .rubber => l.styleRubber
      | .ghost => l.styleGhost
    let withheld (c : OverlayClass) : Prop :=
      (style c).op = 2 ∨ (style c).blink ≠ 0 ∧ l.blinkOn ≤ l.phase ∨ c = .cursor ∧ forced = true
    let sx (p : Point) : Int := ((p.x.value - l.view.originX) * l.view.zoom + 32768) / 65536
    let sy (p : Point) : Int := ((l.view.originY - p.y.value) * l.view.zoom + 32768) / 65536
    let segment (p q : Point) : Shape := .segment (sx p) (sy p) (sx q) (sy q)
    let free := l.shown.point
    let drawn (list : List Shape) : List Shape := if pointValid free then list else []
    displayList l forced = [OverlayClass.cursor, .marker, .rubber, .ghost].flatMap (fun c =>
      (shapes c).map fun s => ⟨c, s⟩) ∧
    (∀ c, withheld c → shapes c = []) ∧
    (¬withheld .cursor →
      (l.shown.proximity = false ∨ pointValid free = false ∧ pointValid l.shown.raw = false → shapes .cursor = []) ∧
      (∀ p, l.shown.proximity = true →
        pointValid free = true ∧ p = free ∨ pointValid free = false ∧ pointValid l.shown.raw = true ∧ p = l.shown.raw →
        shapes .cursor = .glyph l.cursorGlyph.toNat (sx p) (sy p) ::
          (if l.crosshair = 0 then [] else [.horizontal (sx p) (sy p), .vertical (sx p) (sy p)]))) ∧
    (¬withheld .marker →
      let named (field : Nat) : Prop := ∀ glyph, l.markers[field]? = some glyph → shapes .marker =
        if glyph < 16 ∧ pointValid free = true then [.glyph glyph.toNat (sx free) (sy free)] else []
      (∀ o, l.shown.source = .object → l.shown.object = some o → named (match o.kind with
        | .endpoint => 0
        | .midpoint => 1
        | .center => 2
        | .quadrant => 3
        | .intersection => 4
        | .node => 5
        | .insertion => 6)) ∧
      (l.shown.source = .grid → named 7) ∧ (l.shown.source = .constrained → named 8) ∧
      (l.shown.source = .raw → shapes .marker = [])) ∧
    (¬withheld .rubber →
      (l.gestureState ≠ .tracking → shapes .rubber = []) ∧
      (∀ (v0 last : Point), l.gestureState = .tracking → (∀ v ∈ l.vertices, pointValid v = true) →
        l.vertices.head? = some v0 → l.vertices.getLast? = some last →
        shapes .rubber = match l.gestureKind with
          | .point => []
          | .line => drawn [segment v0 free]
          | .chain => (l.vertices.zip (l.vertices.drop 1)).map (fun e => segment e.1 e.2) ++
              drawn (segment last free :: if l.close then [segment free v0] else [])
          | .rect => drawn [.segment (sx v0) (sy v0) (sx free) (sy v0), .segment (sx free) (sy v0) (sx free) (sy free),
              .segment (sx free) (sy free) (sx v0) (sy free), .segment (sx v0) (sy free) (sx v0) (sy v0)]
          | .circle =>
            let r := circleRadius ((sx free - sx v0) ^ 2 + (sy free - sy v0) ^ 2).toNat
            drawn (if r = 0 then [] else [.circle (sx v0) (sy v0) r])
          | .move => [])) ∧
    (¬withheld .ghost →
      (l.gestureState ≠ .tracking ∨ l.gestureKind ≠ .move → shapes .ghost = []) ∧
      (∀ v0, l.gestureState = .tracking → l.gestureKind = .move → l.vertices.head? = some v0 → pointValid v0 = true →
        let moved (x y : BitVec 24) : Option Point :=
          let mx := x.toInt + (free.x.value - v0.x.value)
          let my := y.toInt + (free.y.value - v0.y.value)
          if x.toInt ≠ -8388608 ∧ y.toInt ≠ -8388608 ∧ pointValid free = true ∧ -8388607 ≤ mx ∧ mx ≤ 8388607 ∧
            -8388607 ≤ my ∧ my ≤ 8388607 then some ⟨⟨mx, .valid⟩, ⟨my, .valid⟩⟩ else none
        shapes .ghost = l.ghosts.flatMap fun g => match moved g.x1 g.y1, moved g.x2 g.y2 with
          | some p, some q => [segment p q]
          | _, _ => [])))

/-! ## Return lane -/

/-- REPORT_TX_START and REPORT_TX_END (R165, R169 to R171): with the transmission idle, HOLD low and a report waiting,
the head report leaves the queue, with its flags, and with a check byte that makes everything after the lead byte sum to
0; the overrun notice is cleared. In any other case nothing is begun. At the end the transmission becomes idle. HOLD as
an operand is log entry 13. The lane is high with no transmission, and during one carries its bytes as characters of a
start bit, eight bits least significant first and a stop bit (R164). The kind code and payload of each report are those
of R178. -/
def Obligations.ReportsAreSentWithFlagsAndCheck : Prop :=
  (∀ (r : Report) (rest : List Report) (hold : Bool) (s : State), Running s →
    (s.rlt.transmission = none → s.rlt.queue = r :: rest → ∃ m : Transmission,
      exec (.reportTxStart false) s = .next { s with rlt :=
        { s.rlt with queue := rest, transmission := some m, overrun := false, hold := false } } ∧
      m.report = r ∧ m.position = 0 ∧ m.flags.getLsbD 0 = s.rlt.overrun ∧
      (m.flags.getLsbD 1 = true ↔ ∃ cls cursor, r.body = .error cls .check cursor) ∧ m.flags.toNat < 4 ∧
      laneBytes m = [0xB9, kindByte r.body, BitVec.ofNat 8 (payloadBytes r.body).length, r.tag, m.flags] ++
        payloadBytes r.body ++ [m.check] ∧
      ((laneBytes m).drop 1).foldl (· + ·) 0 = 0) ∧
    (s.rlt.transmission ≠ none ∨ s.rlt.queue = [] ∨ hold = true →
      exec (.reportTxStart hold) s = .next { s with rlt := { s.rlt with hold := hold } }) ∧
    exec .reportTxEnd s = .next { s with rlt := { s.rlt with transmission := none } }) ∧
  (∀ (l : Rlt) (m : Transmission),
    let character (c : Byte) : List Bool :=
      [false, c.getLsbD 0, c.getLsbD 1, c.getLsbD 2, c.getLsbD 3, c.getLsbD 4, c.getLsbD 5, c.getLsbD 6, c.getLsbD 7, true]
    (l.transmission = none → laneLevel l = true) ∧
    (l.transmission = some m → ∀ bit, ((laneBytes m).flatMap character)[m.position]? = some bit → laneLevel l = bit)) ∧
  (∀ (r : ResultRecord) (i : Fin 4) (o : Origin) (epoch live : Word16) (n index width height : Nat) (k : GestureKind)
      (state : GestureState) (flag : Bool) (group cls : Byte) (fields : List SettingField) (bytes : List Byte),
    let b (n : Nat) : Byte := BitVec.ofNat 8 n
    let two (n : Nat) : List Byte := [b (n / 256), b n]
    let signed (size : Nat) (v : Int) : List Byte :=
      (List.range size).map fun j => BitVec.ofInt 8 (v / (256 : Int) ^ (size - 1 - j))
    let clsNo : CoordClass → Nat
      | .valid => 0
      | .offSheet => 1
      | .indefinite => 2
    let point (p : Point) : List Byte :=
      signed 3 p.x.value ++ signed 3 p.y.value ++ [b (clsNo p.x.cls + 4 * clsNo p.y.cls)]
    let sourceNo : Nat := match r.source with
      | .raw => 0
      | .grid => 1
      | .constrained => 2
      | .object => 3
    let status : Byte := b (sourceNo + (if r.truncated then 4 else 0) + (if r.proximity then 8 else 0))
    let snapNo : SnapKind → Nat
      | .endpoint => 0
      | .midpoint => 1
      | .center => 2
      | .quadrant => 3
      | .intersection => 4
      | .node => 5
      | .insertion => 6
    let object : List Byte := match r.object with
      | none => []
      | some o => two o.index ++ [b (snapNo o.kind), b o.layer] ++ two o.handle.toNat ++ two o.dist2 ++
          [if o.bank = .snap0 then 0 else 1]
    let result : List Byte := two r.sequence.toNat ++ point r.raw ++ point r.point ++ [status] ++ object
    let origin : Byte := match o with
      | .button i => b i
      | .packet => 4
      | .reset => 5
    let kindNo : Byte := match k with
      | .point => 0
      | .line => 1
      | .chain => 2
      | .rect => 3
      | .circle => 4
      | .move => 5
    let stateNo : Byte := match state with
      | .idle => 0
      | .armed => 1
      | .tracking => 2
    let bit : Byte := if flag then 1 else 0
    let sends (body : ReportBody) (kind : Byte) (payload : List Byte) : Prop :=
      kindByte body = kind ∧ payloadBytes body = payload
    sends (.track r) 0x81 result ∧
    sends (.committed o epoch n r) 0x82
      (origin :: (two epoch.toNat ++ [b n] ++ two r.sequence.toNat ++ point r.point ++ [status] ++ object)) ∧
    sends (.commitRefused i .invalid) 0x83 [b i, 0] ∧ sends (.commitRefused i .absent) 0x83 [b i, 1] ∧
    sends (.commitRefused i .duplicate) 0x83 [b i, 2] ∧
    sends (.gestureDone o epoch k n .normal flag) 0x84 (origin :: (two epoch.toNat ++ [kindNo, b n, 0, bit])) ∧
    sends (.gestureDone o epoch k n .full flag) 0x84 (origin :: (two epoch.toNat ++ [kindNo, b n, 1, bit])) ∧
    sends (.cancelled o epoch k n .request) 0x85 (origin :: (two epoch.toNat ++ [kindNo, b n, 0])) ∧
    sends (.cancelled o epoch k n .reset) 0x85 (origin :: (two epoch.toNat ++ [kindNo, b n, 1])) ∧
    (∀ e ∈ [(Action.none, (0 : Byte)), (.commit, 1), (.finish, 2), (.cancel, 3), (.report, 4)],
      sends (.button i e.1 r) 0x86 ([b i, e.2] ++ result)) ∧
    (∀ e ∈ [(ContextOp.park, 0), (.copy, 4), (.resume, 8), (.discard, 12)],
      sends (.context e.1 i flag k state n epoch live) 0x87
        ([b (e.2 + i), bit, kindNo, stateNo, b n] ++ two epoch.toNat ++ two live.toNat)) ∧
    sends (.setting group fields) 0x88 (group :: fields.flatMap fun f =>
      signed (if f.wide then 8 else 4) f.value ++ [if f.pending then 1 else 0]) ∧
    sends .syncDone 0x89 [] ∧ sends (.echo bytes) 0x8A bytes ∧
    (∀ e ∈ [(Cause.check, (0 : Byte)), (.cls, 1), (.length, 2), (.field, 3), (.count, 4), (.state, 5), (.sequence, 6),
        (.overflow, 7), (.short, 8), (.notReady, 9), (.active, 10), (.inUse, 11), (.source, 12)],
      sends (.error cls e.1 none) 0x8B [cls, e.2] ∧ sends (.error cls e.1 (some n)) 0x8B ([cls, e.2] ++ two n)) ∧
    (∀ e ∈ [(some Target.snap0, (0 : Byte)), (some .snap1, 1), (some .ghost, 2), (some .directions, 3), (some .glyph, 4),
        (none, 5)],
      sends (.table e.1 .mismatch) 0x8C [e.2, 0] ∧
      sends (.table e.1 (.built n index width)) 0x8C ([e.2, 1] ++ two n ++ two index ++ two width) ∧
      sends (.table e.1 (.committed n)) 0x8C ([e.2, 2] ++ two n) ∧ sends (.table e.1 .activated) 0x8C [e.2, 3] ∧
      sends (.table e.1 .verified) 0x8C [e.2, 4] ∧ sends (.table e.1 .damaged) 0x8C [e.2, 5] ∧
      sends (.table e.1 .aborted) 0x8C [e.2, 6]) ∧
    (∀ st ∈ [(LockState.search, (0 : Byte)), (.confirm, 1), (.locked, 2), (.lost, 3)],
      ∀ cause ∈ [(LinkCause.acquired, (0 : Byte)), (.mismatch, 1), (.silence, 2)],
      ∀ fault ∈ [(none, (0 : Byte)), (some LockFault.width, 1), (some .excess, 2), (some .short, 3)],
        sends (.link st.1 cause.1 fault.1 index width height) 0x8D
          ([st.2, cause.2, fault.2] ++ two index ++ two width ++ two height)) ∧
    (∀ e ∈ [(Scope.gesture, (0 : Byte)), (.tables, 1), (.settings, 2), (.all, 3)], sends (.resetDone e.1) 0x8E [e.2]))

/-! ## Invariants -/

/-- The invariants hold at `State.reset`. -/
def Obligations.ResetStateMeetsTheInvariants : Prop :=
  ReportQueueOk State.reset ∧ PathOk State.reset ∧ GesturesOk State.reset ∧ TablesOk State.reset ∧
  CoordinatesOk State.reset ∧ SettingsOk State.reset

/-- Every step keeps the report queue's bounds (R166, R167), and the delay path's (R1). -/
def Obligations.StepsKeepTheQueueAndPathBounds : Prop :=
  ∀ s t : State, step s = .next t → (ReportQueueOk s → ReportQueueOk t) ∧ (PathOk s → PathOk t)

/-- Every step keeps what R118, R119 and R132 say of the live gesture and the slots. -/
def Obligations.StepsKeepTheGestures : Prop := ∀ s t : State, GesturesOk s → step s = .next t → GesturesOk t

/-- Every step keeps what R81, R83, R84 and R88 say of the banks, the mark, the pin, the fates and the verify. -/
def Obligations.StepsKeepTheTables : Prop := ∀ s t : State, TablesOk s → step s = .next t → TablesOk t

/-- Every step keeps the law of the device in R33. -/
def Obligations.StepsKeepTheCoordinates : Prop := ∀ s t : State, CoordinatesOk s → step s = .next t → CoordinatesOk t

/-- Every step keeps every setting in its range (R19, R21), no value pending outside LOCKED (R22, R24), and the blink
phase below the period (R143). -/
def Obligations.StepsKeepTheSettings : Prop := ∀ s t : State, SettingsOk s → step s = .next t → SettingsOk t
end

