-- ==== Sys2Proof/Laws/State.lean ====
section
/-! SUPPORT. One lemma per field per block update of the state, true by `rfl`, and the same for the updates the statements
use. -/

namespace Sys2Proof.Machine

/-! ## withVpl -/

@[simp] theorem State.withVpl_resetAsserted (s : State) (x : Vpl) : (s.withVpl x).resetAsserted = s.resetAsserted := rfl
@[simp] theorem State.withVpl_vpl (s : State) (x : Vpl) : (s.withVpl x).vpl = x := rfl
@[simp] theorem State.withVpl_pds (s : State) (x : Vpl) : (s.withVpl x).pds = s.pds := rfl
@[simp] theorem State.withVpl_ptu (s : State) (x : Vpl) : (s.withVpl x).ptu = s.ptu := rfl
@[simp] theorem State.withVpl_tbs (s : State) (x : Vpl) : (s.withVpl x).tbs = s.tbs := rfl
@[simp] theorem State.withVpl_sse (s : State) (x : Vpl) : (s.withVpl x).sse = s.sse := rfl
@[simp] theorem State.withVpl_gcu (s : State) (x : Vpl) : (s.withVpl x).gcu = s.gcu := rfl
@[simp] theorem State.withVpl_ovc (s : State) (x : Vpl) : (s.withVpl x).ovc = s.ovc := rfl
@[simp] theorem State.withVpl_rlt (s : State) (x : Vpl) : (s.withVpl x).rlt = s.rlt := rfl
@[simp] theorem State.withVpl_pending (s : State) (x : Vpl) : (s.withVpl x).pending = s.pending := rfl
@[simp] theorem State.withVpl_same (s : State) : s.withVpl s.vpl = s := rfl
@[simp] theorem State.withVpl_withVpl (s : State) (x y : Vpl) : (s.withVpl x).withVpl y = s.withVpl y := rfl

/-! ## withPds -/

@[simp] theorem State.withPds_resetAsserted (s : State) (x : Pds) : (s.withPds x).resetAsserted = s.resetAsserted := rfl
@[simp] theorem State.withPds_vpl (s : State) (x : Pds) : (s.withPds x).vpl = s.vpl := rfl
@[simp] theorem State.withPds_pds (s : State) (x : Pds) : (s.withPds x).pds = x := rfl
@[simp] theorem State.withPds_ptu (s : State) (x : Pds) : (s.withPds x).ptu = s.ptu := rfl
@[simp] theorem State.withPds_tbs (s : State) (x : Pds) : (s.withPds x).tbs = s.tbs := rfl
@[simp] theorem State.withPds_sse (s : State) (x : Pds) : (s.withPds x).sse = s.sse := rfl
@[simp] theorem State.withPds_gcu (s : State) (x : Pds) : (s.withPds x).gcu = s.gcu := rfl
@[simp] theorem State.withPds_ovc (s : State) (x : Pds) : (s.withPds x).ovc = s.ovc := rfl
@[simp] theorem State.withPds_rlt (s : State) (x : Pds) : (s.withPds x).rlt = s.rlt := rfl
@[simp] theorem State.withPds_pending (s : State) (x : Pds) : (s.withPds x).pending = s.pending := rfl
@[simp] theorem State.withPds_same (s : State) : s.withPds s.pds = s := rfl
@[simp] theorem State.withPds_withPds (s : State) (x y : Pds) : (s.withPds x).withPds y = s.withPds y := rfl

/-! ## withPtu -/

@[simp] theorem State.withPtu_resetAsserted (s : State) (x : Ptu) : (s.withPtu x).resetAsserted = s.resetAsserted := rfl
@[simp] theorem State.withPtu_vpl (s : State) (x : Ptu) : (s.withPtu x).vpl = s.vpl := rfl
@[simp] theorem State.withPtu_pds (s : State) (x : Ptu) : (s.withPtu x).pds = s.pds := rfl
@[simp] theorem State.withPtu_ptu (s : State) (x : Ptu) : (s.withPtu x).ptu = x := rfl
@[simp] theorem State.withPtu_tbs (s : State) (x : Ptu) : (s.withPtu x).tbs = s.tbs := rfl
@[simp] theorem State.withPtu_sse (s : State) (x : Ptu) : (s.withPtu x).sse = s.sse := rfl
@[simp] theorem State.withPtu_gcu (s : State) (x : Ptu) : (s.withPtu x).gcu = s.gcu := rfl
@[simp] theorem State.withPtu_ovc (s : State) (x : Ptu) : (s.withPtu x).ovc = s.ovc := rfl
@[simp] theorem State.withPtu_rlt (s : State) (x : Ptu) : (s.withPtu x).rlt = s.rlt := rfl
@[simp] theorem State.withPtu_pending (s : State) (x : Ptu) : (s.withPtu x).pending = s.pending := rfl
@[simp] theorem State.withPtu_same (s : State) : s.withPtu s.ptu = s := rfl
@[simp] theorem State.withPtu_withPtu (s : State) (x y : Ptu) : (s.withPtu x).withPtu y = s.withPtu y := rfl

/-! ## withTbs -/

@[simp] theorem State.withTbs_resetAsserted (s : State) (x : Tbs) : (s.withTbs x).resetAsserted = s.resetAsserted := rfl
@[simp] theorem State.withTbs_vpl (s : State) (x : Tbs) : (s.withTbs x).vpl = s.vpl := rfl
@[simp] theorem State.withTbs_pds (s : State) (x : Tbs) : (s.withTbs x).pds = s.pds := rfl
@[simp] theorem State.withTbs_ptu (s : State) (x : Tbs) : (s.withTbs x).ptu = s.ptu := rfl
@[simp] theorem State.withTbs_tbs (s : State) (x : Tbs) : (s.withTbs x).tbs = x := rfl
@[simp] theorem State.withTbs_sse (s : State) (x : Tbs) : (s.withTbs x).sse = s.sse := rfl
@[simp] theorem State.withTbs_gcu (s : State) (x : Tbs) : (s.withTbs x).gcu = s.gcu := rfl
@[simp] theorem State.withTbs_ovc (s : State) (x : Tbs) : (s.withTbs x).ovc = s.ovc := rfl
@[simp] theorem State.withTbs_rlt (s : State) (x : Tbs) : (s.withTbs x).rlt = s.rlt := rfl
@[simp] theorem State.withTbs_pending (s : State) (x : Tbs) : (s.withTbs x).pending = s.pending := rfl
@[simp] theorem State.withTbs_same (s : State) : s.withTbs s.tbs = s := rfl
@[simp] theorem State.withTbs_withTbs (s : State) (x y : Tbs) : (s.withTbs x).withTbs y = s.withTbs y := rfl

/-! ## withSse -/

@[simp] theorem State.withSse_resetAsserted (s : State) (x : Sse) : (s.withSse x).resetAsserted = s.resetAsserted := rfl
@[simp] theorem State.withSse_vpl (s : State) (x : Sse) : (s.withSse x).vpl = s.vpl := rfl
@[simp] theorem State.withSse_pds (s : State) (x : Sse) : (s.withSse x).pds = s.pds := rfl
@[simp] theorem State.withSse_ptu (s : State) (x : Sse) : (s.withSse x).ptu = s.ptu := rfl
@[simp] theorem State.withSse_tbs (s : State) (x : Sse) : (s.withSse x).tbs = s.tbs := rfl
@[simp] theorem State.withSse_sse (s : State) (x : Sse) : (s.withSse x).sse = x := rfl
@[simp] theorem State.withSse_gcu (s : State) (x : Sse) : (s.withSse x).gcu = s.gcu := rfl
@[simp] theorem State.withSse_ovc (s : State) (x : Sse) : (s.withSse x).ovc = s.ovc := rfl
@[simp] theorem State.withSse_rlt (s : State) (x : Sse) : (s.withSse x).rlt = s.rlt := rfl
@[simp] theorem State.withSse_pending (s : State) (x : Sse) : (s.withSse x).pending = s.pending := rfl
@[simp] theorem State.withSse_same (s : State) : s.withSse s.sse = s := rfl
@[simp] theorem State.withSse_withSse (s : State) (x y : Sse) : (s.withSse x).withSse y = s.withSse y := rfl

/-! ## withGcu -/

@[simp] theorem State.withGcu_resetAsserted (s : State) (x : Gcu) : (s.withGcu x).resetAsserted = s.resetAsserted := rfl
@[simp] theorem State.withGcu_vpl (s : State) (x : Gcu) : (s.withGcu x).vpl = s.vpl := rfl
@[simp] theorem State.withGcu_pds (s : State) (x : Gcu) : (s.withGcu x).pds = s.pds := rfl
@[simp] theorem State.withGcu_ptu (s : State) (x : Gcu) : (s.withGcu x).ptu = s.ptu := rfl
@[simp] theorem State.withGcu_tbs (s : State) (x : Gcu) : (s.withGcu x).tbs = s.tbs := rfl
@[simp] theorem State.withGcu_sse (s : State) (x : Gcu) : (s.withGcu x).sse = s.sse := rfl
@[simp] theorem State.withGcu_gcu (s : State) (x : Gcu) : (s.withGcu x).gcu = x := rfl
@[simp] theorem State.withGcu_ovc (s : State) (x : Gcu) : (s.withGcu x).ovc = s.ovc := rfl
@[simp] theorem State.withGcu_rlt (s : State) (x : Gcu) : (s.withGcu x).rlt = s.rlt := rfl
@[simp] theorem State.withGcu_pending (s : State) (x : Gcu) : (s.withGcu x).pending = s.pending := rfl
@[simp] theorem State.withGcu_same (s : State) : s.withGcu s.gcu = s := rfl
@[simp] theorem State.withGcu_withGcu (s : State) (x y : Gcu) : (s.withGcu x).withGcu y = s.withGcu y := rfl

/-! ## withOvc -/

@[simp] theorem State.withOvc_resetAsserted (s : State) (x : Ovc) : (s.withOvc x).resetAsserted = s.resetAsserted := rfl
@[simp] theorem State.withOvc_vpl (s : State) (x : Ovc) : (s.withOvc x).vpl = s.vpl := rfl
@[simp] theorem State.withOvc_pds (s : State) (x : Ovc) : (s.withOvc x).pds = s.pds := rfl
@[simp] theorem State.withOvc_ptu (s : State) (x : Ovc) : (s.withOvc x).ptu = s.ptu := rfl
@[simp] theorem State.withOvc_tbs (s : State) (x : Ovc) : (s.withOvc x).tbs = s.tbs := rfl
@[simp] theorem State.withOvc_sse (s : State) (x : Ovc) : (s.withOvc x).sse = s.sse := rfl
@[simp] theorem State.withOvc_gcu (s : State) (x : Ovc) : (s.withOvc x).gcu = s.gcu := rfl
@[simp] theorem State.withOvc_ovc (s : State) (x : Ovc) : (s.withOvc x).ovc = x := rfl
@[simp] theorem State.withOvc_rlt (s : State) (x : Ovc) : (s.withOvc x).rlt = s.rlt := rfl
@[simp] theorem State.withOvc_pending (s : State) (x : Ovc) : (s.withOvc x).pending = s.pending := rfl
@[simp] theorem State.withOvc_same (s : State) : s.withOvc s.ovc = s := rfl
@[simp] theorem State.withOvc_withOvc (s : State) (x y : Ovc) : (s.withOvc x).withOvc y = s.withOvc y := rfl

/-! ## withRlt -/

@[simp] theorem State.withRlt_resetAsserted (s : State) (x : Rlt) : (s.withRlt x).resetAsserted = s.resetAsserted := rfl
@[simp] theorem State.withRlt_vpl (s : State) (x : Rlt) : (s.withRlt x).vpl = s.vpl := rfl
@[simp] theorem State.withRlt_pds (s : State) (x : Rlt) : (s.withRlt x).pds = s.pds := rfl
@[simp] theorem State.withRlt_ptu (s : State) (x : Rlt) : (s.withRlt x).ptu = s.ptu := rfl
@[simp] theorem State.withRlt_tbs (s : State) (x : Rlt) : (s.withRlt x).tbs = s.tbs := rfl
@[simp] theorem State.withRlt_sse (s : State) (x : Rlt) : (s.withRlt x).sse = s.sse := rfl
@[simp] theorem State.withRlt_gcu (s : State) (x : Rlt) : (s.withRlt x).gcu = s.gcu := rfl
@[simp] theorem State.withRlt_ovc (s : State) (x : Rlt) : (s.withRlt x).ovc = s.ovc := rfl
@[simp] theorem State.withRlt_rlt (s : State) (x : Rlt) : (s.withRlt x).rlt = x := rfl
@[simp] theorem State.withRlt_pending (s : State) (x : Rlt) : (s.withRlt x).pending = s.pending := rfl
@[simp] theorem State.withRlt_same (s : State) : s.withRlt s.rlt = s := rfl
@[simp] theorem State.withRlt_withRlt (s : State) (x y : Rlt) : (s.withRlt x).withRlt y = s.withRlt y := rfl

/-! ## withPending -/

@[simp] theorem State.withPending_resetAsserted (s : State) (x : List Instr) : (s.withPending x).resetAsserted = s.resetAsserted := rfl
@[simp] theorem State.withPending_vpl (s : State) (x : List Instr) : (s.withPending x).vpl = s.vpl := rfl
@[simp] theorem State.withPending_pds (s : State) (x : List Instr) : (s.withPending x).pds = s.pds := rfl
@[simp] theorem State.withPending_ptu (s : State) (x : List Instr) : (s.withPending x).ptu = s.ptu := rfl
@[simp] theorem State.withPending_tbs (s : State) (x : List Instr) : (s.withPending x).tbs = s.tbs := rfl
@[simp] theorem State.withPending_sse (s : State) (x : List Instr) : (s.withPending x).sse = s.sse := rfl
@[simp] theorem State.withPending_gcu (s : State) (x : List Instr) : (s.withPending x).gcu = s.gcu := rfl
@[simp] theorem State.withPending_ovc (s : State) (x : List Instr) : (s.withPending x).ovc = s.ovc := rfl
@[simp] theorem State.withPending_rlt (s : State) (x : List Instr) : (s.withPending x).rlt = s.rlt := rfl
@[simp] theorem State.withPending_pending (s : State) (x : List Instr) : (s.withPending x).pending = x := rfl
@[simp] theorem State.withPending_same (s : State) : s.withPending s.pending = s := rfl
@[simp] theorem State.withPending_withPending (s : State) (x y : List Instr) : (s.withPending x).withPending y = s.withPending y := rfl

/-! ## queued and dropped -/

@[simp] theorem State.queued_resetAsserted (s : State) (l : List Report) : (s.queued l).resetAsserted = s.resetAsserted := rfl
@[simp] theorem State.queued_vpl (s : State) (l : List Report) : (s.queued l).vpl = s.vpl := rfl
@[simp] theorem State.queued_pds (s : State) (l : List Report) : (s.queued l).pds = s.pds := rfl
@[simp] theorem State.queued_ptu (s : State) (l : List Report) : (s.queued l).ptu = s.ptu := rfl
@[simp] theorem State.queued_tbs (s : State) (l : List Report) : (s.queued l).tbs = s.tbs := rfl
@[simp] theorem State.queued_sse (s : State) (l : List Report) : (s.queued l).sse = s.sse := rfl
@[simp] theorem State.queued_gcu (s : State) (l : List Report) : (s.queued l).gcu = s.gcu := rfl
@[simp] theorem State.queued_ovc (s : State) (l : List Report) : (s.queued l).ovc = s.ovc := rfl
@[simp] theorem State.queued_pending (s : State) (l : List Report) : (s.queued l).pending = s.pending := rfl
@[simp] theorem State.queued_queue (s : State) (l : List Report) : (s.queued l).rlt.queue = s.rlt.queue ++ l := rfl
@[simp] theorem State.dropped_resetAsserted (s : State) : s.dropped.resetAsserted = s.resetAsserted := rfl
@[simp] theorem State.dropped_vpl (s : State) : s.dropped.vpl = s.vpl := rfl
@[simp] theorem State.dropped_ptu (s : State) : s.dropped.ptu = s.ptu := rfl
@[simp] theorem State.dropped_tbs (s : State) : s.dropped.tbs = s.tbs := rfl
@[simp] theorem State.dropped_sse (s : State) : s.dropped.sse = s.sse := rfl
@[simp] theorem State.dropped_gcu (s : State) : s.dropped.gcu = s.gcu := rfl
@[simp] theorem State.dropped_ovc (s : State) : s.dropped.ovc = s.ovc := rfl
@[simp] theorem State.dropped_pending (s : State) : s.dropped.pending = s.pending := rfl
@[simp] theorem State.dropped_queue (s : State) : s.dropped.rlt.queue = s.rlt.queue := rfl

end Sys2Proof.Machine
end

