-- ==== Sys2Proof/Laws/Ops.lean ====
section
/-! SUPPORT. What each shared operation can do, said once: offers to the report queue, search requests, banks, slots,
groups of settings. -/

namespace Sys2Proof.Machine

/-! ## Offers (R166 to R168) -/

theorem queueFull_eq (s : State) : queueFull s = decide (16 ≤ s.rlt.queue.length) := by
  simp only [queueFull, Config.queueMax]
  by_cases h : s.rlt.queue.length < 16
  · simp [h]
  · simp [h, Nat.le_of_not_lt h]

/-- An offer with a place free appends the report. -/
theorem offer_room {s : State} (h : s.rlt.queue.length < 16) (tag : Byte) (b : ReportBody) :
    offer tag b s = s.queued [⟨tag, b⟩] := by
  have hq : queueFull s = false := by rw [queueFull_eq]; simpa using h
  simp only [offer, hq]; rfl

/-- An offer to a full queue drops the report. -/
theorem offer_full {s : State} (h : 16 ≤ s.rlt.queue.length) (tag : Byte) (b : ReportBody) :
    offer tag b s = s.dropped := by
  have hq : queueFull s = true := by rw [queueFull_eq]; simpa using h
  simp only [offer, hq]; rfl

/-- All an offer can do. -/
theorem offer_cases (tag : Byte) (b : ReportBody) (s : State) :
    (s.rlt.queue.length < 16 ∧ offer tag b s = s.queued [⟨tag, b⟩]) ∨
    (16 ≤ s.rlt.queue.length ∧ offer tag b s = s.dropped) := by
  rcases Nat.lt_or_ge s.rlt.queue.length 16 with h | h
  · exact .inl ⟨h, offer_room h tag b⟩
  · exact .inr ⟨h, offer_full h tag b⟩

@[simp] theorem offer_resetAsserted (tag : Byte) (b : ReportBody) (s : State) :
    (offer tag b s).resetAsserted = s.resetAsserted := by
  rcases offer_cases tag b s with ⟨-, h⟩ | ⟨-, h⟩ <;> rw [h] <;> rfl
@[simp] theorem offer_vpl (tag : Byte) (b : ReportBody) (s : State) : (offer tag b s).vpl = s.vpl := by
  rcases offer_cases tag b s with ⟨-, h⟩ | ⟨-, h⟩ <;> rw [h] <;> rfl
@[simp] theorem offer_ptu (tag : Byte) (b : ReportBody) (s : State) : (offer tag b s).ptu = s.ptu := by
  rcases offer_cases tag b s with ⟨-, h⟩ | ⟨-, h⟩ <;> rw [h] <;> rfl
@[simp] theorem offer_tbs (tag : Byte) (b : ReportBody) (s : State) : (offer tag b s).tbs = s.tbs := by
  rcases offer_cases tag b s with ⟨-, h⟩ | ⟨-, h⟩ <;> rw [h] <;> rfl
@[simp] theorem offer_sse (tag : Byte) (b : ReportBody) (s : State) : (offer tag b s).sse = s.sse := by
  rcases offer_cases tag b s with ⟨-, h⟩ | ⟨-, h⟩ <;> rw [h] <;> rfl
@[simp] theorem offer_gcu (tag : Byte) (b : ReportBody) (s : State) : (offer tag b s).gcu = s.gcu := by
  rcases offer_cases tag b s with ⟨-, h⟩ | ⟨-, h⟩ <;> rw [h] <;> rfl
@[simp] theorem offer_ovc (tag : Byte) (b : ReportBody) (s : State) : (offer tag b s).ovc = s.ovc := by
  rcases offer_cases tag b s with ⟨-, h⟩ | ⟨-, h⟩ <;> rw [h] <;> rfl
@[simp] theorem offer_pending (tag : Byte) (b : ReportBody) (s : State) : (offer tag b s).pending = s.pending := by
  rcases offer_cases tag b s with ⟨-, h⟩ | ⟨-, h⟩ <;> rw [h] <;> rfl
@[simp] theorem offer_settings (tag : Byte) (b : ReportBody) (s : State) :
    (offer tag b s).pds.settings = s.pds.settings := by
  rcases offer_cases tag b s with ⟨-, h⟩ | ⟨-, h⟩ <;> rw [h] <;> rfl
@[simp] theorem offer_fence (tag : Byte) (b : ReportBody) (s : State) : (offer tag b s).pds.fence = s.pds.fence := by
  rcases offer_cases tag b s with ⟨-, h⟩ | ⟨-, h⟩ <;> rw [h] <;> rfl
@[simp] theorem offer_receive (tag : Byte) (b : ReportBody) (s : State) :
    (offer tag b s).pds.receive = s.pds.receive := by
  rcases offer_cases tag b s with ⟨-, h⟩ | ⟨-, h⟩ <;> rw [h] <;> rfl

/-- Offers change the queue, the overrun notice and REPORT_OVERRUN alone. -/
theorem offered_frame (l : List Report) (s : State) :
    s.offered l = { s with
      rlt := (s.offered l).rlt, pds := { s.pds with reportOverrun := (s.offered l).pds.reportOverrun } } := by
  induction l generalizing s with
  | nil => rfl
  | cons r l ih =>
    refine (ih (offer r.tag r.body s)).trans ?_
    show _ = ({ s with
      rlt := ((offer r.tag r.body s).offered l).rlt,
      pds := { s.pds with reportOverrun := ((offer r.tag r.body s).offered l).pds.reportOverrun } } : State)
    generalize ((offer r.tag r.body s).offered l).rlt = x
    generalize ((offer r.tag r.body s).offered l).pds.reportOverrun = y
    rcases offer_cases r.tag r.body s with ⟨-, h⟩ | ⟨-, h⟩ <;> rw [h] <;> rfl

/-- What offers leave depends on the return lane and REPORT_OVERRUN alone. -/
theorem offered_congr (l : List Report) {s u : State} (h1 : s.rlt = u.rlt)
    (h2 : s.pds.reportOverrun = u.pds.reportOverrun) :
    (s.offered l).rlt = (u.offered l).rlt ∧ (s.offered l).pds.reportOverrun = (u.offered l).pds.reportOverrun := by
  induction l generalizing s u with
  | nil => exact ⟨h1, h2⟩
  | cons r l ih =>
    have hq : s.rlt.queue = u.rlt.queue := by rw [h1]
    show ((offer r.tag r.body s).offered l).rlt = ((offer r.tag r.body u).offered l).rlt ∧
      ((offer r.tag r.body s).offered l).pds.reportOverrun = ((offer r.tag r.body u).offered l).pds.reportOverrun
    apply ih
    · rcases offer_cases r.tag r.body s with ⟨k, h⟩ | ⟨k, h⟩ <;>
        rcases offer_cases r.tag r.body u with ⟨k2, g⟩ | ⟨k2, g⟩ <;> rw [hq] at k
      · rw [h, g]; simp only [State.queued, h1]
      · omega
      · omega
      · rw [h, g]; simp only [State.dropped, h1]
    · rcases offer_cases r.tag r.body s with ⟨k, h⟩ | ⟨k, h⟩ <;>
        rcases offer_cases r.tag r.body u with ⟨k2, g⟩ | ⟨k2, g⟩ <;> rw [hq] at k
      · rw [h, g]; exact h2
      · omega
      · omega
      · rw [h, g]; rfl

theorem offered_withTbs (l : List Report) (s : State) (x : Tbs) : (s.offered l).withTbs x = (s.withTbs x).offered l := by
  rw [offered_frame l (s.withTbs x), ← (offered_congr l (s := s) (u := s.withTbs x) rfl rfl).1,
    ← (offered_congr l (s := s) (u := s.withTbs x) rfl rfl).2, offered_frame l s]
  rfl

@[simp] theorem offered_tbs (l : List Report) (s : State) : (s.offered l).tbs = s.tbs := by rw [offered_frame]
@[simp] theorem offered_vpl (l : List Report) (s : State) : (s.offered l).vpl = s.vpl := by rw [offered_frame]
@[simp] theorem offered_ptu (l : List Report) (s : State) : (s.offered l).ptu = s.ptu := by rw [offered_frame]
@[simp] theorem offered_sse (l : List Report) (s : State) : (s.offered l).sse = s.sse := by rw [offered_frame]
@[simp] theorem offered_gcu (l : List Report) (s : State) : (s.offered l).gcu = s.gcu := by rw [offered_frame]
@[simp] theorem offered_ovc (l : List Report) (s : State) : (s.offered l).ovc = s.ovc := by rw [offered_frame]
@[simp] theorem offered_pending (l : List Report) (s : State) : (s.offered l).pending = s.pending := by rw [offered_frame]
@[simp] theorem offered_resetAsserted (l : List Report) (s : State) :
    (s.offered l).resetAsserted = s.resetAsserted := by rw [offered_frame]
@[simp] theorem offered_settings (l : List Report) (s : State) : (s.offered l).pds.settings = s.pds.settings := by
  rw [offered_frame]
@[simp] theorem offered_fence (l : List Report) (s : State) : (s.offered l).pds.fence = s.pds.fence := by
  rw [offered_frame]

theorem offered_append (l m : List Report) (s : State) : s.offered (l ++ m) = (s.offered l).offered m := by
  simp [State.offered, List.foldl_append]

/-- Offers add at the queue's end. -/
theorem offered_queue (l : List Report) (s : State) : ∃ more, (s.offered l).rlt.queue = s.rlt.queue ++ more := by
  induction l generalizing s with
  | nil => exact ⟨[], (List.append_nil _).symm⟩
  | cons r l ih =>
    obtain ⟨more, h⟩ := ih (offer r.tag r.body s)
    rcases offer_cases r.tag r.body s with ⟨-, g⟩ | ⟨-, g⟩ <;> rw [g] at h
    · refine ⟨r :: more, ?_⟩
      show ((offer r.tag r.body s).offered l).rlt.queue = _
      rw [g, h]; simp
    · refine ⟨more, ?_⟩
      show ((offer r.tag r.body s).offered l).rlt.queue = _
      rw [g]; exact h

/-- Offers that all find a place append their reports. -/
theorem offered_room (l : List Report) {s : State} (h : s.rlt.queue.length + l.length ≤ 16) :
    s.offered l = s.queued l := by
  induction l generalizing s with
  | nil => simp [State.offered, State.queued]
  | cons r l ih =>
    rw [List.length_cons] at h
    show (offer r.tag r.body s).offered l = _
    rw [offer_room (by omega), ih (by rw [State.queued_queue, List.length_append]; simp; omega)]
    simp [State.queued]

/-- A granted reservation leaves a place free and changes the queue alone (R168). -/
theorem reserve_some {s t : State} (h : reserve s = some t) :
    t = s.withRlt { s.rlt with queue := t.rlt.queue } ∧
    (t.rlt.queue = s.rlt.queue ∧ s.rlt.queue.length < 16 ∨
      t.rlt.queue = s.rlt.queue.eraseP isTrack ∧ 16 ≤ s.rlt.queue.length ∧ s.rlt.queue.any isTrack = true) := by
  unfold reserve at h
  rw [queueFull_eq] at h
  by_cases hq : 16 ≤ s.rlt.queue.length
  · simp only [hq, decide_true, Bool.not_true, Bool.false_eq_true, if_false] at h
    split at h
    · rename_i ha
      cases h
      exact ⟨rfl, .inr ⟨rfl, hq, ha⟩⟩
    · cases h
  · simp only [hq, decide_false, Bool.not_false, if_true, Option.some.injEq] at h
    subst h
    exact ⟨rfl, .inl ⟨rfl, by omega⟩⟩

/-! ## Search requests (R99) -/

/-- From an IDLE engine a request starts a search. -/
theorem searchRequest_idle {s : State} (h : s.sse.flight = none) : searchRequest s = startSearch s := by
  simp only [searchRequest, h]

/-- During a search a request sets the rerun flag. -/
theorem searchRequest_busy {s : State} {f : Flight} (h : s.sse.flight = some f) :
    searchRequest s = s.withSse { s.sse with rerun := true } := by
  simp only [searchRequest, h]

@[simp] theorem searchRequest_resetAsserted (s : State) : (searchRequest s).resetAsserted = s.resetAsserted := by
  unfold searchRequest; split <;> rfl
@[simp] theorem searchRequest_vpl (s : State) : (searchRequest s).vpl = s.vpl := by
  unfold searchRequest; split <;> rfl
@[simp] theorem searchRequest_pds (s : State) : (searchRequest s).pds = s.pds := by
  unfold searchRequest; split <;> rfl
@[simp] theorem searchRequest_ptu (s : State) : (searchRequest s).ptu = s.ptu := by
  unfold searchRequest; split <;> rfl
@[simp] theorem searchRequest_gcu (s : State) : (searchRequest s).gcu = s.gcu := by
  unfold searchRequest; split <;> rfl
@[simp] theorem searchRequest_ovc (s : State) : (searchRequest s).ovc = s.ovc := by
  unfold searchRequest; split <;> rfl
@[simp] theorem searchRequest_rlt (s : State) : (searchRequest s).rlt = s.rlt := by
  unfold searchRequest; split <;> rfl
@[simp] theorem searchRequest_pending (s : State) : (searchRequest s).pending = s.pending := by
  unfold searchRequest; split <;> rfl
@[simp] theorem searchRequest_published (s : State) : (searchRequest s).sse.published = s.sse.published := by
  unfold searchRequest; split <;> rfl
/-- A request changes nothing of the table store but the pin. -/
theorem searchRequest_tbs (s : State) : ∃ p, (searchRequest s).tbs = { s.tbs with pin := p } := by
  unfold searchRequest
  split
  · exact ⟨activeBank s.tbs, rfl⟩
  · exact ⟨s.tbs.pin, rfl⟩

/-- A request is taken in the words of the statements. -/
theorem searchRequest_asked (s : State) : SearchAsked s (searchRequest s) := by
  cases h : s.sse.flight with
  | none =>
    rw [searchRequest_idle h]
    exact ⟨fun _ => ⟨rfl, firstProgress s.tbs (takeSnapshot s), by unfold firstProgress; split <;> rfl,
      by unfold firstProgress; split <;> rfl, rfl⟩, fun g => absurd h g⟩
  | some f =>
    rw [searchRequest_busy h]
    exact ⟨fun g => (by rw [h] at g; cases g), fun _ => ⟨rfl, rfl⟩⟩

/-! ## Banks, slots, groups -/

@[simp] theorem bankOf_setBank_same (t : Tbs) (b : BankId) (x : Bank) : bankOf (setBank t b x) b = x := by
  cases b <;> rfl
theorem bankOf_setBank_other {b c : BankId} (h : c ≠ b) (t : Tbs) (x : Bank) :
    bankOf (setBank t b x) c = bankOf t c := by
  cases b <;> cases c <;> first | rfl | exact absurd rfl h
@[simp] theorem setBank_pin (t : Tbs) (b : BankId) (x : Bank) : (setBank t b x).pin = t.pin := by cases b <;> rfl
@[simp] theorem setBank_mark (t : Tbs) (b : BankId) (x : Bank) : (setBank t b x).mark = t.mark := by cases b <;> rfl
@[simp] theorem setBank_verify (t : Tbs) (b : BankId) (x : Bank) : (setBank t b x).verify = t.verify := by
  cases b <;> rfl

@[simp] theorem slotOf_setSlot_same (g : Gcu) (i : Fin 4) (c : Option Gesture) : slotOf (setSlot g i c) i = c := by
  fin_cases i <;> rfl
theorem slotOf_setSlot_other {i j : Fin 4} (h : j ≠ i) (g : Gcu) (c : Option Gesture) :
    slotOf (setSlot g i c) j = slotOf g j := by
  fin_cases i <;> fin_cases j <;> first | rfl | exact absurd rfl h
@[simp] theorem setSlot_live (g : Gcu) (i : Fin 4) (c : Option Gesture) : (setSlot g i c).live = g.live := by
  fin_cases i <;> rfl

@[simp] theorem groupCells_setGroupCells_same (t : Settings) (g : Group) (cells : List FieldCell) :
    groupCells (setGroupCells t g cells) g = cells := by
  cases g <;> rfl
theorem groupCells_setGroupCells_other {g h : Group} (hn : h ≠ g) (t : Settings) (cells : List FieldCell) :
    groupCells (setGroupCells t g cells) h = groupCells t h := by
  cases g <;> cases h <;> first | rfl | exact absurd rfl hn
@[simp] theorem setGroupCells_groupCells (t : Settings) (g : Group) : setGroupCells t g (groupCells t g) = t := by
  cases g <;> rfl

/-- Every pending value becomes current in every group (R22). -/
theorem groupCells_applySettings (t : Settings) (g : Group) :
    groupCells (applySettings t) g = (groupCells t g).map applyCell := by
  cases g <;> rfl

/-- No value is pending once every pending value is current (R22). -/
theorem settingsPending_applySettings (t : Settings) : settingsPending (applySettings t) = false := by
  rw [Bool.eq_false_iff]
  intro h
  simp only [settingsPending, List.any_eq_true, groupCells_applySettings, List.mem_map, applyCell] at h
  obtain ⟨g, -, c, ⟨d, -, rfl⟩, hc⟩ := h
  cases hc

/-! ## Commands while the pin is asserted -/

theorem whileRunning_running {s : State} (h : s.resetAsserted = false) (f : State → State) :
    whileRunning f s = .next (f s) := by
  simp [whileRunning, h]

theorem whileRunning_asserted {s : State} (h : s.resetAsserted = true) (f : State → State) :
    whileRunning f s = .next s := by
  simp [whileRunning, h]

end Sys2Proof.Machine
end

