-- ==== Sys2Proof/Laws/Apply.lean ====
section
/-! SUPPORT. All an apply point can do, said once (R12, R22, R23, R29, R81, R82, R90, R98). -/

namespace Sys2Proof.Machine

/-- The source-change notice is a change of the pointer unit alone. -/
theorem sourceNotice_eq (s : State) : sourceNotice s = s.withPtu (sourceChanged s.pds.settings s.ptu) := by
  by_cases h : sourceField s.pds.settings = s.ptu.source
  · exact (if_pos h).trans (congrArg s.withPtu (if_pos h)).symm
  · exact (if_neg h).trans (congrArg s.withPtu (if_neg h)).symm

/-- The notices of one occasion. -/
theorem giveNotices_eq (n : Notices) (s : State) :
    giveNotices n s = { s with
      ptu := if n.source then sourceChanged s.pds.settings s.ptu else s.ptu
      ovc := if n.period then { s.ovc with phase := 0, restart := true } else s.ovc
      tbs := if n.interval then { s.tbs with interval := 0 } else s.tbs } := by
  obtain ⟨a, b, c, d⟩ := n
  cases b <;> cases c <;> cases d <;> simp only [giveNotices, noticeIf, sourceNotice_eq] <;> rfl

/-- Every waiting SYNC is answered, and none waits (R29). -/
theorem completeFence_eq (s : State) :
    completeFence s = (s.offered (s.pds.fence.map fun tag => ⟨tag, .syncDone⟩)).withPds
      { (s.offered (s.pds.fence.map fun tag => ⟨tag, .syncDone⟩)).pds with fence := [] } := by
  have h : ∀ (l : List Byte) (u : State), l.foldl (fun s tag => offer tag .syncDone s) u =
      u.offered (l.map fun tag => ⟨tag, .syncDone⟩) := by
    intro l u; simp [State.offered, List.foldl_map]
  simp only [completeFence, h]

/-- A table report is an offer of one report. -/
theorem tableReport_eq (tag : Byte) (target : Option Target) (e : TableEvent) (s : State) :
    tableReport tag target e s = s.offered [⟨tag, .table target e⟩] := rfl

/-- The staged tables at an apply point (R90): the tables, the staging records, and the reports. -/
theorem commitStaged_eq (s : State) :
    commitStaged s = (s.withTbs { s.tbs with
      ghosts := tableAfter s.tbs.ghostStage s.tbs.ghosts
      directions := tableAfter s.tbs.directionStage s.tbs.directions
      glyphs := if s.tbs.glyphStage.state = .staged then
        mergeGlyphs s.tbs.glyphStage.firstGlyph s.tbs.glyphStage.records s.tbs.glyphs else s.tbs.glyphs
      ghostStage := stageAfter s.tbs.ghostStage
      directionStage := stageAfter s.tbs.directionStage
      glyphStage := stageAfter s.tbs.glyphStage }).offered
        (committedReport .ghost s.tbs.ghostStage ++ committedReport .directions s.tbs.directionStage ++
          committedReport .glyph s.tbs.glyphStage) := by
  by_cases h1 : s.tbs.ghostStage.state = .staged <;> by_cases h2 : s.tbs.directionStage.state = .staged <;>
    by_cases h3 : s.tbs.glyphStage.state = .staged <;>
    simp only [commitStaged, commitGhosts, commitDirections, commitGlyphs, tableReport_eq, h1, h2, h3, if_true, if_false,
      committedReport, offered_tbs, State.withTbs_tbs, offered_withTbs, offered_append, List.append_nil, List.nil_append,
      tableAfter, stageAfter] <;> rfl

/-- Step 1 of R81: the ACTIVE bank is READY, and the verify that ran on it is aborted. -/
theorem retireActive_eq {s : State} {m : Mark} (hm : s.tbs.mark = some m) :
    retireActive s = (s.withTbs { (match activeBank s.tbs with
        | none => s.tbs
        | some a => setBank s.tbs a { bankOf s.tbs a with state := .ready }) with
      verify := if abortedVerify s.tbs = none then s.tbs.verify else none }).offered
        ((abortedVerify s.tbs).toList.map fun j => ⟨j.tag, .table (some (bankTarget j.bank)) .aborted⟩) := by
  cases ha : activeBank s.tbs with
  | none =>
    have h : abortedVerify s.tbs = none := by cases hv : s.tbs.verify <;> simp [abortedVerify, hm, hv, ha]
    rw [h]; simp only [retireActive, ha]; rfl
  | some a =>
    rcases Option.eq_none_or_eq_some s.tbs.verify with hv | ⟨j, hv⟩
    · have h : abortedVerify s.tbs = none := by simp [abortedVerify, hv]
      have e : retireActive s = s.withTbs (setBank s.tbs a { bankOf s.tbs a with state := .ready }) := by
        simp only [retireActive, ha, hv]
      rw [h, e]; cases a <;> rfl
    · by_cases hj : j.bank = a
      · have h : abortedVerify s.tbs = some j := by simp [abortedVerify, hm, hv, ha, hj]
        rw [h]; simp only [retireActive, ha, hv, if_pos hj]; rfl
      · have h : abortedVerify s.tbs = none := by simp [abortedVerify, hm, hv, ha, Ne.symm hj]
        have e : retireActive s = s.withTbs (setBank s.tbs a { bankOf s.tbs a with state := .ready }) := by
          simp only [retireActive, ha, hv, if_neg hj]
        rw [h, e]; cases a <;> rfl

/-- A held mark at an apply point (R81): the banks, the verify, SNAP_DOWN, and the reports. -/
theorem applyMark_eq (s : State) :
    ∃ x : Tbs, applyMark s = (s.withTbs x).offered
        (((abortedVerify s.tbs).toList.map fun j => ⟨j.tag, .table (some (bankTarget j.bank)) .aborted⟩) ++
          (s.tbs.mark.toList.map fun m => ⟨m.tag, .table (m.target.map bankTarget) .activated⟩)) ∧
      (∀ b, bankOf x b = bankAfterMark s.tbs b) ∧
      x = { s.tbs with
        bank0 := x.bank0, bank1 := x.bank1, mark := none
        snapDown := if s.tbs.mark = none then s.tbs.snapDown else false
        verify := if abortedVerify s.tbs = none then s.tbs.verify else none } := by
  cases hm : s.tbs.mark with
  | none =>
    refine ⟨s.tbs, ?_, ?_, ?_⟩
    · simp only [applyMark, hm, abortedVerify]; rfl
    · intro b; simp only [bankAfterMark, hm]
    · have h : abortedVerify s.tbs = none := by simp [abortedVerify, hm]
      rw [if_pos h, if_pos rfl]
      conv_rhs => rw [← hm]
  | some m =>
    refine ⟨installMark m.target { (match activeBank s.tbs with
        | none => s.tbs
        | some a => setBank s.tbs a { bankOf s.tbs a with state := .ready }) with
      verify := if abortedVerify s.tbs = none then s.tbs.verify else none }, ?_, ?_, ?_⟩
    · simp only [applyMark, hm, activate, retireActive_eq hm, tableReport_eq, offered_append, offered_withTbs,
        offered_tbs, State.withTbs_tbs, State.withTbs_withTbs]
      rfl
    · intro b
      obtain ⟨target, tag⟩ := m
      simp only [bankAfterMark, hm]
      cases ha : activeBank s.tbs with
      | none => cases target with
        | none => cases b <;> rfl
        | some c => cases b <;> cases c <;> rfl
      | some a => cases target with
        | none => cases b <;> cases a <;> rfl
        | some c => cases b <;> cases c <;> cases a <;> rfl
    · obtain ⟨target, tag⟩ := m
      cases ha : activeBank s.tbs with
      | none => cases target with
        | none => rfl
        | some c => cases c <;> rfl
      | some a => cases target with
        | none => cases a <;> rfl
        | some c => cases c <;> cases a <;> rfl

/-- The changes of an apply point, before its search request. -/
theorem applyChanges_spec (s : State) :
    let t := completeFence (commitStaged (applyMark (applyPending s)))
    (∀ g, groupCells t.pds.settings g =
      (groupCells s.pds.settings g).map fun c => ⟨c.pending.getD c.current, none⟩) ∧
    t.ptu = (if fieldPending s.pds.settings .tablet 5 then sourceChanged t.pds.settings s.ptu else s.ptu) ∧
    (∀ b, bankOf t.tbs b = bankAfterMark s.tbs b) ∧
    t.tbs = { s.tbs with
      bank0 := t.tbs.bank0, bank1 := t.tbs.bank1, mark := none
      interval := if fieldPending s.pds.settings .reports 1 then 0 else s.tbs.interval
      snapDown := if s.tbs.mark = none then s.tbs.snapDown else false
      verify := if abortedVerify s.tbs = none then s.tbs.verify else none
      ghosts := tableAfter s.tbs.ghostStage s.tbs.ghosts
      directions := tableAfter s.tbs.directionStage s.tbs.directions
      glyphs := if s.tbs.glyphStage.state = .staged then
        mergeGlyphs s.tbs.glyphStage.firstGlyph s.tbs.glyphStage.records s.tbs.glyphs else s.tbs.glyphs
      ghostStage := stageAfter s.tbs.ghostStage
      directionStage := stageAfter s.tbs.directionStage
      glyphStage := stageAfter s.tbs.glyphStage } ∧
    Offered s t (applyReports s) ∧
    t.ovc = { s.ovc with
      phase := if fieldPending s.pds.settings .blink 0 then 0 else s.ovc.phase
      restart := fieldPending s.pds.settings .blink 0 || s.ovc.restart } ∧
    t.pds = { s.pds with
      settings := applySettings s.pds.settings, fence := [], reportOverrun := t.pds.reportOverrun } ∧
    t.sse = s.sse ∧ t.gcu = s.gcu ∧ t.vpl = s.vpl ∧ t.resetAsserted = s.resetAsserted ∧ t.pending = s.pending := by
  intro t
  let s1 := applyPending s
  have e1 : s1 = giveNotices (noticesOfPending s.pds.settings) (setSettings (applySettings s.pds.settings) s) := rfl
  rw [giveNotices_eq] at e1
  obtain ⟨x, hx, hb, hr⟩ := applyMark_eq s1
  have ht : t = completeFence (commitStaged (applyMark s1)) := rfl
  have a1 : s1.rlt = s.rlt := by rw [e1]; rfl
  have a2 : s1.pds = { s.pds with settings := applySettings s.pds.settings } := by rw [e1]; rfl
  have a3 : s1.ptu = if fieldPending s.pds.settings .tablet 5 then sourceChanged s1.pds.settings s.ptu else s.ptu := by
    rw [e1]; rfl
  have a4 : s1.ovc = { s.ovc with
      phase := if fieldPending s.pds.settings .blink 0 then 0 else s.ovc.phase
      restart := fieldPending s.pds.settings .blink 0 || s.ovc.restart } := by
    rw [e1]; by_cases h : fieldPending s.pds.settings .blink 0 = true <;> simp [noticesOfPending, h, setSettings]
  have a5 : s1.tbs = { s.tbs with interval := if fieldPending s.pds.settings .reports 1 then 0 else s.tbs.interval } := by
    rw [e1]; by_cases h : fieldPending s.pds.settings .reports 1 = true <;> simp [noticesOfPending, h, setSettings]
  have a6 : s1.sse = s.sse ∧ s1.gcu = s.gcu ∧ s1.vpl = s.vpl ∧ s1.resetAsserted = s.resetAsserted ∧
    s1.pending = s.pending := by rw [e1]; exact ⟨rfl, rfl, rfl, rfl, rfl⟩
  have hb2 : ∀ b, bankOf x b = bankAfterMark s.tbs b := by
    intro b; rw [hb, a5]; cases b <;> rfl
  clear_value s1
  rw [hx, commitStaged_eq, offered_withTbs, completeFence_eq] at ht
  simp only [offered_tbs, offered_fence, State.withTbs_tbs, State.withTbs_pds, State.withTbs_withTbs, ← offered_append] at ht
  have hl : ∀ y : Tbs, (abortedVerify s1.tbs).toList.map (fun j => (⟨j.tag, .table (some (bankTarget j.bank)) .aborted⟩ : Report)) ++
        s1.tbs.mark.toList.map (fun m => (⟨m.tag, .table (m.target.map bankTarget) .activated⟩ : Report)) ++
        (committedReport .ghost x.ghostStage ++ committedReport .directions x.directionStage ++
          committedReport .glyph x.glyphStage) ++
        s1.pds.fence.map (fun tag => (⟨tag, .syncDone⟩ : Report)) = applyReports s := by
    intro _; rw [hr, a5, a2]; rfl
  rw [hl x] at ht
  have hc := offered_congr (applyReports s) (s := s1.withTbs { x with
      ghosts := tableAfter x.ghostStage x.ghosts
      directions := tableAfter x.directionStage x.directions
      glyphs := if x.glyphStage.state = .staged then
        mergeGlyphs x.glyphStage.firstGlyph x.glyphStage.records x.glyphs else x.glyphs
      ghostStage := stageAfter x.ghostStage
      directionStage := stageAfter x.directionStage
      glyphStage := stageAfter x.glyphStage }) (u := s) (by simp [a1]) (by simp [a2])
  rw [offered_frame, hc.1, hc.2] at ht
  clear_value t
  subst ht
  refine ⟨?_, ?_, ?_, ?_, ?_, ?_, ?_, ?_, ?_, ?_, ?_, ?_⟩
  · intro g; simp only [State.withPds_pds, State.withTbs_pds, a2, groupCells_applySettings]; rfl
  · simp [a3]
  · intro b; rw [← hb2 b]; cases b <;> rfl
  · rw [a5] at hr
    show ({ x with
      ghosts := tableAfter x.ghostStage x.ghosts
      directions := tableAfter x.directionStage x.directions
      glyphs := if x.glyphStage.state = .staged then
        mergeGlyphs x.glyphStage.firstGlyph x.glyphStage.records x.glyphs else x.glyphs
      ghostStage := stageAfter x.ghostStage
      directionStage := stageAfter x.directionStage
      glyphStage := stageAfter x.glyphStage } : Tbs) = _
    rw [hr]; rfl
  · exact ⟨rfl, rfl⟩
  · simp [a4]
  · simp [a2]
  · exact a6.1
  · exact a6.2.1
  · exact a6.2.2.1
  · exact a6.2.2.2.1
  · exact a6.2.2.2.2

/-- Which occasions have the apply point ask for a search. -/
theorem applyRequests_iff (s : State) : applyRequests s = true ↔ applySearches s := by
  simp only [applyRequests, noticesOfPending, settings, Bool.or_eq_true, beq_iff_eq, Option.isSome_iff_ne_none, applySearches]
  tauto

/-- A glyph of the table after an apply point. -/
theorem glyphs_after (stage : Staging GlyphRecord) (table : List Glyph) (i : Nat) (g : Glyph) (h : table[i]? = some g) :
    (if stage.state = .staged then mergeGlyphs stage.firstGlyph stage.records table else table)[i]? =
      some (glyphAfter stage i g) := by
  by_cases hs : stage.state = .staged
  · simp only [hs, if_true, mergeGlyphs, List.getElem?_mapIdx, h, Option.map_some, Config.glyphRecords, glyphAfter, true_and]
    congr
  · simp only [hs, if_false, h, glyphAfter, false_and]

/-- All an apply point can do: every waiting change is current, with its notices, its reports in their order, and one search
request; nothing is pending; and nothing else changes. -/
theorem applyPoint_spec (s : State) :
    let t := applyPoint s
    ChangesCurrent s t ∧ NothingPending t ∧ Offered s t (applyReports s) ∧
    t.ovc = { s.ovc with
      phase := if fieldPending s.pds.settings .blink 0 then 0 else s.ovc.phase
      restart := fieldPending s.pds.settings .blink 0 || s.ovc.restart } ∧
    t.pds = { s.pds with
      settings := applySettings s.pds.settings, fence := [], reportOverrun := t.pds.reportOverrun } ∧
    t.vpl = s.vpl ∧ t.resetAsserted = s.resetAsserted ∧ t.pending = s.pending := by
  obtain ⟨h1, h2, h3, h4, h5, h6, h7, h8, h9, h10, h11, h12⟩ := applyChanges_spec s
  have e : applyPoint s = requestIf (applyRequests s) (completeFence (commitStaged (applyMark (applyPending s)))) := rfl
  generalize completeFence (commitStaged (applyMark (applyPending s))) = u at *
  intro t
  have hu : t.vpl = u.vpl ∧ t.pds = u.pds ∧ t.ptu = u.ptu ∧ t.gcu = u.gcu ∧ t.ovc = u.ovc ∧ t.rlt = u.rlt ∧
      t.resetAsserted = u.resetAsserted ∧ t.pending = u.pending ∧ (∃ p, t.tbs = { u.tbs with pin := p }) := by
    show _ ∧ _
    rw [show t = requestIf (applyRequests s) u from e]
    cases applyRequests s
    · exact ⟨rfl, rfl, rfl, rfl, rfl, rfl, rfl, rfl, u.tbs.pin, rfl⟩
    · simp only [requestIf, if_true]
      simp [searchRequest_tbs]
  obtain ⟨k1, k2, k3, k4, k5, k6, k7, k8, p, k9⟩ := hu
  have hbank : ∀ b, bankOf t.tbs b = bankOf u.tbs b := by intro b; rw [k9]; cases b <;> rfl
  have hstage : ∀ {α : Type} (g : Staging α), (stageAfter g).state ≠ .staged := by
    intro α g
    by_cases hg : g.state = .staged
    · rw [stageAfter, if_pos hg]; nofun
    · rw [stageAfter, if_neg hg]; exact hg
  refine ⟨⟨?_, ?_, ?_, ?_, ?_, ?_, ?_, ?_, ?_, ?_, ?_, ?_, ?_, ?_, ?_, ?_⟩, ⟨?_, ?_, ?_, ?_, ?_, ?_⟩, ⟨?_, ?_⟩, ?_, ?_, ?_, ?_, ?_⟩
  · intro g; rw [k2]; exact h1 g
  · rw [k3, k2]; exact h2
  · rw [k9, h4]
  · intro b; rw [hbank]; exact h3 b
  · rw [k9, h4]
  · rw [k9, h4]
  · rw [k9, h4]
  · rw [k9, h4]
  · rw [k9, h4]
    show (if _ then _ else _ : List Glyph).length = _
    split
    · simp [mergeGlyphs]
    · rfl
  · intro i g hg; rw [k9, h4]; exact glyphs_after _ _ _ _ hg
  · rw [k9, h4]
  · rw [k9, h4]
  · rw [k9, h4]
  · intro ha
    have e2 : t = searchRequest u := by rw [show t = _ from e, (applyRequests_iff s).2 ha]; rfl
    have h := searchRequest_asked u
    rw [← e2] at h
    have hp : u.tbs.pin = s.tbs.pin := by rw [h4]
    unfold SearchAsked at h
    rw [h8, hp] at h
    exact h
  · intro ha
    have e2 : t = u := by
      rw [show t = _ from e, Bool.eq_false_iff.2 fun hr => ha ((applyRequests_iff s).1 hr)]; rfl
    rw [e2, h4]; exact ⟨h8, rfl⟩
  · rw [k4]; exact h9
  · rw [k2, h7]; exact settingsPending_applySettings _
  · rw [k9, h4]
  · rw [k9, h4]; exact hstage _
  · rw [k9, h4]; exact hstage _
  · rw [k9, h4]; exact hstage _
  · rw [k2, h7]
  · rw [k6]; exact h5.1
  · rw [k2]; exact h5.2
  · rw [k5]; exact h6
  · rw [k2]; exact h7
  · rw [k1]; exact h10
  · rw [k7]; exact h11
  · rw [k8]; exact h12

/-- All a lock loss can do: the lock machine has left LOCKED as the statements say it, its LINK report offered first. -/
theorem lockLoss_spec (s : State) (v : Vpl) (lock : LockState) (cause : LinkCause) (fault : Option LockFault) (line : Nat)
    (h1 : v.lock = lock) (h2 : v.candidate = none) (h3 : v.width = s.vpl.width) (h4 : v.height = s.vpl.height)
    (h5 : v.windowOpen = false) :
    let t := lockLoss (offer 0 (.link lock cause fault line s.vpl.width s.vpl.height) (s.withVpl v))
    LockLost lock cause fault line s t ∧ t.vpl = v ∧ t.resetAsserted = s.resetAsserted ∧ t.pending = s.pending ∧
    t.pds.receive = s.pds.receive := by
  intro t
  let link : Report := ⟨0, .link lock cause fault line s.vpl.width s.vpl.height⟩
  let u1 := offer 0 (.link lock cause fault line s.vpl.width s.vpl.height) (s.withVpl v)
  have e1 : u1 = (s.withVpl v).offered [link] := rfl
  obtain ⟨⟨a1, a2, a3, a4, a5, a6, a7, a8, a9, a10, a11, a12, a13, a14, a15, a16⟩, b, c, d, e, f, g, h⟩ :=
    applyPoint_spec u1
  have ht : t = composerLockLoss (applyPoint u1) := rfl
  have p1 : u1.vpl = v := by rw [e1]; simp
  have p2 : u1.tbs = s.tbs := by rw [e1]; simp
  have p3 : u1.pds.settings = s.pds.settings := by rw [e1]; simp
  have p4 : u1.ptu = s.ptu := by rw [e1]; simp
  have p5 : u1.gcu = s.gcu := by rw [e1]; simp
  have p6 : u1.sse = s.sse := by rw [e1]; simp
  have p7 : u1.ovc = s.ovc := by rw [e1]; simp
  have p8 : u1.pds.fence = s.pds.fence := by rw [e1]; simp
  have p9 : applyReports u1 = applyReports s := by simp only [applyReports, p2, p8]
  generalize hw : applyPoint u1 = w at *
  have q : t.vpl = w.vpl ∧ t.pds = w.pds ∧ t.ptu = w.ptu ∧ t.tbs = w.tbs ∧ t.sse = w.sse ∧ t.gcu = w.gcu ∧
      t.rlt = w.rlt ∧ t.resetAsserted = w.resetAsserted ∧ t.pending = w.pending := by
    rw [ht]; exact ⟨rfl, rfl, rfl, rfl, rfl, rfl, rfl, rfl, rfl⟩
  have qo : t.ovc = { w.ovc with
      latch := { w.ovc.latch with current := false }, display := [], frameOverrun := 0 } := by rw [ht]; rfl
  obtain ⟨q1, q2, q3, q4, q5, q6, q7, q8, q9⟩ := q
  have ho := offered_congr [link] (s := s.withVpl v) (u := s) rfl rfl
  have co := offered_congr (applyReports s) (s := u1) (u := s.offered [link]) (by rw [e1]; exact ho.1)
    (by rw [e1]; exact ho.2)
  have off : Offered s t (link :: applyReports s) := by
    refine ⟨?_, ?_⟩
    · rw [q7, c.1, p9, co.1]; rfl
    · rw [q2, c.2, p9, co.2]; rfl
  refine ⟨⟨?_, ?_, ?_, ?_, ?_, ?_, ?_, ?_, ?_, ?_⟩, ?_, ?_, ?_, ?_⟩
  · rw [q1, f, p1, h1]
  · rw [q1, f, p1, h2]
  · rw [q1, f, p1, h3]
  · rw [q1, f, p1, h4]
  · rw [q1, f, p1, h5]
  · unfold NothingPending at *; rw [q2, q4]; exact b
  · refine ⟨?_, ?_, ?_, ?_, ?_, ?_, ?_, ?_, ?_, ?_, ?_, ?_, ?_, ?_, ?_, ?_⟩
    · intro g; rw [q2, a1, p3]
    · rw [q3, q2, a2, p3, p4]
    · rw [q4, a3, p3, p2]
    · intro b; rw [q4, a4, p2]
    · rw [q4, a5, p2]
    · rw [q4, a6, p2]
    · rw [q4, a7, p2]
    · rw [q4, a8, p2]
    · rw [q4, a9, p2]
    · intro i g hg; rw [q4, a10 i g (by rw [p2]; exact hg), p2]
    · rw [q4, a11, p2]
    · rw [q4, a12, p2]
    · rw [q4, a13, p2]
    · intro hs
      have := a14 (by unfold applySearches at *; rw [p2, p3]; exact hs)
      unfold SearchAsked at this ⊢
      rw [q4, q5, ← p6, ← p2]
      have e2 : takeSnapshot t = takeSnapshot w := by simp only [takeSnapshot, q2, q3, q4, q6, settings]
      rw [e2]
      exact this
    · intro hs
      have := a15 (by unfold applySearches at *; rw [p2, p3]; exact hs)
      rw [q5, q4, this.1, this.2, p2, p6]; exact ⟨rfl, rfl⟩
    · rw [q6, a16, p5]
  · rw [qo, d, p7, p3]
  · intro hr
    rw [off.1]
    obtain ⟨more, hm⟩ := offered_queue (applyReports s) (s.offered [link])
    refine ⟨more, ?_⟩
    rw [show s.offered (link :: applyReports s) = (s.offered [link]).offered (applyReports s) from rfl, hm,
      offered_room [link] hr, State.queued_queue, List.append_assoc]
    rfl
  · exact off
  · rw [q1, f, p1]
  · rw [q8, g, e1]; simp
  · rw [q9, h, e1]; simp
  · rw [q2, e]; simp [e1]; rw [offered_frame]; rfl

end Sys2Proof.Machine
end

