-- ==== Sys2Proof/Laws/Arith.lean ====
section
/-! SUPPORT. The arithmetic operations of chapter 3: ranges of clamps and saturation, classes, the integer square root. -/

namespace Sys2Proof.Machine

theorem clampInt_ge {lo hi v : Int} (h : lo ≤ hi) : lo ≤ clampInt lo hi v := by
  unfold clampInt; split
  · exact Int.le_refl lo
  · split <;> omega

theorem clampInt_le {lo hi v : Int} (h : lo ≤ hi) : clampInt lo hi v ≤ hi := by
  unfold clampInt; split
  · exact h
  · split <;> omega

theorem clampInt_id {lo hi v : Int} (h1 : lo ≤ v) (h2 : v ≤ hi) : clampInt lo hi v = v := by
  unfold clampInt; rw [if_neg (by omega), if_neg (by omega)]

/-- A clamp keeps order. -/
theorem clampInt_mono {lo hi v w : Int} (h : lo ≤ hi) (hv : v ≤ w) : clampInt lo hi v ≤ clampInt lo hi w := by
  unfold clampInt; split <;> split <;> (try split) <;> (try split) <;> omega

theorem saturate_range (v : Int) : -8388607 ≤ saturate v ∧ saturate v ≤ 8388607 :=
  ⟨clampInt_ge (by decide), clampInt_le (by decide)⟩

/-- A computed axis obeys R33's law. -/
theorem computedCoord_ok (c : CoordClass) (v : Int) : CoordOk (computedCoord c v) := by
  have h := saturate_range v
  cases c
  · refine .inl ⟨?_, h.1, h.2⟩
    show (if saturate v = v then CoordClass.valid else CoordClass.offSheet) ≠ .indefinite
    split <;> decide
  · exact .inl ⟨nofun, h.1, h.2⟩
  · exact .inr ⟨rfl, rfl⟩

/-- A coordinate taken from a stored value obeys R33's law. -/
theorem storedCoord_ok (v : BitVec 24) : CoordOk (storedCoord v) := by
  unfold storedCoord
  split
  · exact .inr ⟨rfl, rfl⟩
  · rename_i h
    have h1 := BitVec.toInt_lt (x := v)
    have h2 := BitVec.le_toInt (x := v)
    simp only [Config.indefiniteCode] at h
    refine .inl ⟨nofun, ?_, ?_⟩ <;> dsimp only <;> omega

/-- The digits of the square root, from the top down. -/
theorem sqrtFrom_spec (n k r : Nat) (h1 : r * r ≤ n) (h2 : n < (r + 2 ^ k) * (r + 2 ^ k)) :
    sqrtFrom n k r * sqrtFrom n k r ≤ n ∧ n < (sqrtFrom n k r + 1) * (sqrtFrom n k r + 1) := by
  induction k generalizing r with
  | zero => simpa [sqrtFrom] using ⟨h1, h2⟩
  | succ k ih =>
    unfold sqrtFrom
    split
    · rename_i hle
      apply ih _ hle
      have e : r + 2 ^ k + 2 ^ k = r + 2 ^ (k + 1) := by rw [Nat.pow_succ]; omega
      rwa [e]
    · rename_i hgt
      exact ih _ h1 (Nat.lt_of_not_le hgt)

/-- The integer square root. -/
theorem isqrt_spec (n : Nat) : isqrt n * isqrt n ≤ n ∧ n < (isqrt n + 1) * (isqrt n + 1) := by
  apply sqrtFrom_spec
  · simp
  · rcases Nat.eq_zero_or_pos n with h | h
    · subst h; simp
    · have hl : n < 2 ^ (n.log2 + 1) := (Nat.log2_lt (by omega)).1 (Nat.lt_succ_self _)
      calc n < 2 ^ (n.log2 + 1) := hl
        _ ≤ 2 ^ ((n.log2 / 2 + 1) + (n.log2 / 2 + 1)) := Nat.pow_le_pow_right (by decide) (by omega)
        _ = (0 + 2 ^ (n.log2 / 2 + 1)) * (0 + 2 ^ (n.log2 / 2 + 1)) := by rw [Nat.zero_add, ← Nat.pow_add]

end Sys2Proof.Machine
end

