-- ==== Sys2Proof/Laws/Settings.lean ====
section
/-! SUPPORT. What the working copy of a SET holds field by field (R20, R21), so that no later proof unfolds its passes. -/

namespace Sys2Proof.Machine

/-- The value a packet places in field `i`: its last pair that names the field (R20). -/
def placedValue (pairs : List (Byte × Int)) (i : Nat) : Option Int :=
  (pairs.reverse.find? fun p => decide (p.1.toNat = i)).map Prod.snd

theorem placedCodes_contains_iff (pairs : List (Byte × Int)) (i : Nat) :
    (placedCodes pairs).contains i = true ↔ placedValue pairs i ≠ none := by
  simp [placedCodes, placedValue]

theorem workingCopy_getElem? (cells : List FieldCell) (i : Nat) :
    (workingCopy cells)[i]? = cells[i]?.map fun c => c.pending.getD c.current := by
  simp [workingCopy]

theorem placePairs_length (work : List Int) (pairs : List (Byte × Int)) :
    (placePairs work pairs).length = work.length := by
  induction pairs using List.reverseRecOn with
  | nil => rfl
  | append_singleton l p ih => simp only [placePairs, List.foldl_append, List.foldl_cons, List.foldl_nil,
      List.length_set] at ih ⊢; exact ih

/-- Placing the pairs leaves each field with its last placed value, or as it was. -/
theorem placePairs_getElem? (work : List Int) (pairs : List (Byte × Int)) (i : Nat) :
    (placePairs work pairs)[i]? = work[i]?.map fun w => (placedValue pairs i).getD w := by
  induction pairs using List.reverseRecOn with
  | nil => simp [placePairs, placedValue]
  | append_singleton l p ih =>
    have e : placePairs work (l ++ [p]) = (placePairs work l).set p.1.toNat p.2 := by simp [placePairs]
    rw [e, List.getElem?_set, placePairs_length]
    by_cases h : p.1.toNat = i
    · subst h
      by_cases hk : p.1.toNat < work.length <;> simp [hk, placedValue]
    · simp [h, ih, placedValue]

/-- The first pass: a placed field holds its placed value, clamped; any other is as the working copy has it (R21). -/
theorem firstPass_getElem? (specs : List FieldSpec) (pairs : List (Byte × Int)) (cells : List FieldCell) (i : Nat) :
    (firstPass specs (placedCodes pairs) (placePairs (workingCopy cells) pairs))[i]? = cells[i]?.map fun c =>
      match placedValue pairs i, specs[i]? with
      | some v, some f => clampField f v
      | some v, none => v
      | none, _ => c.pending.getD c.current := by
  simp only [firstPass, List.getElem?_mapIdx, placePairs_getElem?, workingCopy_getElem?, Option.map_map]
  congr 1; funext c
  have := placedCodes_contains_iff pairs i
  cases h : placedValue pairs i with
  | none =>
    have hc : (placedCodes pairs).contains i = false := Bool.eq_false_iff.2 fun z => this.1 z h
    simp only [Function.comp, hc, Bool.false_eq_true, if_false, Option.getD_none]
  | some v =>
    have hc : (placedCodes pairs).contains i = true := this.2 (by simp [h])
    simp only [Function.comp, hc, if_true, Option.getD_some]
    cases specs[i]? <;> rfl

/-- The second pass changes the dependent field alone (R21). -/
theorem clampedCopy_getElem?_of_ne {g : Group} {i : Nat} (h : ∀ c d, dependence g = some (c, d) → i ≠ d)
    (cells : List FieldCell) (pairs : List (Byte × Int)) :
    (clampedCopy g cells pairs)[i]? =
      (firstPass (groupSpecs g) (placedCodes pairs) (placePairs (workingCopy cells) pairs))[i]? := by
  unfold clampedCopy secondPass
  cases hd : dependence g with
  | none => rfl
  | some p =>
    simp only
    split
    · rw [List.getElem?_set_ne (Ne.symm (h p.1 p.2 hd))]
    · rfl

/-- A field that depends on no other is written exactly when the packet places it (R20). -/
theorem isWritten_iff_placed {g : Group} {i : Nat} (h : ∀ c d, dependence g = some (c, d) → i ≠ d)
    (cells : List FieldCell) (pairs : List (Byte × Int)) :
    isWritten g cells pairs i = true ↔ placedValue pairs i ≠ none := by
  rw [isWritten, Bool.or_eq_true, placedCodes_contains_iff, clampedCopy_getElem?_of_ne h, firstPass_getElem?,
    workingCopy_getElem?]
  refine ⟨fun z => z.elim id fun z hn => ?_, Or.inl⟩
  rw [hn] at z
  simp at z

/-- The cells of a group after a SET: the written ones changed, every other as it was (R20). -/
theorem writeGroup_getElem? (g : Group) (locked : Bool) (pairs : List (Byte × Int)) (cells : List FieldCell) (i : Nat) :
    (writeGroup g locked pairs cells)[i]? = cells[i]?.map fun c =>
      if isWritten g cells pairs i then writeCell locked ((clampedCopy g cells pairs).getD i 0) c else c := by
  simp only [writeGroup, List.getElem?_mapIdx]

end Sys2Proof.Machine
end

