-- ==== Sys2Proof/Tests/Slice0.lean ====
section
/-! SUPPORT. Tests of single steps, their expected results taken from the manual's worked cases and rules, and a witness for
each statement with hypotheses. -/

namespace Sys2Proof.Tests

open Sys2Proof Sys2Proof.Machine

/-! ## Helpers -/

/-- A view of the next state, if the step gives one. -/
def after {α : Type} (c : Instr) (s : State) (view : State → α) : Option α :=
  match exec c s with
  | .next t => some (view t)
  | .fault _ => none
  | .refused _ => none

/-- `State.reset`, LOCKED on a 320 × 240 stream. -/
def locked : State := { State.reset with vpl := { resetVpl with lock := .locked, width := 320, height := 240 } }

/-- A state with a live gesture of this kind and these vertices. -/
def gesturing (kind : GestureKind) (state : GestureState) (vertices : List Point) : State :=
  { State.reset with gcu := { resetGcu with live := ⟨kind, state, vertices, false, [], 7⟩ } }

/-- A state whose published result is a VALID point with the pointer present. -/
def showing (p : Point) (s : State) : State :=
  { s with sse := { s.sse with published := ⟨41, p, p, .raw, none, false, true⟩ } }

/-- A state with this many reports waiting. -/
def waiting (n : Nat) (s : State) : State :=
  { s with rlt := { s.rlt with queue := List.replicate n ⟨0, .syncDone⟩ } }

def valid (v : Int) : Coord := ⟨v, .valid⟩
def pt (x y : Int) : Point := ⟨valid x, valid y⟩

/-- The pointer of the worked case of chapter 3, and its entries A, B and C with the layers and handles of section 6.7. -/
def pointer : Point := pt 150000 87500
def entryA : SnapEntry := ⟨150200, 87400, 0x0002, 310⟩
def entryB : SnapEntry := ⟨149900, 87300, 0x2002, 310⟩
def entryC : SnapEntry := ⟨150000, 87800, 0x4005, 422⟩
def workedView : View := ⟨100000, 120000, 2048⟩

/-- A bank of A, B and C built with cell shift 12 and origin (0, 0), whose three entries all lie in cell 1,380; its directory
is that of R76 and its cell index list holds the three in load order. -/
def workedBank (state : BankState) : Bank :=
  { emptyBank with
    state := state, count := 3, shift := 12, entries := [entryA, entryB, entryC],
    directory := (List.range 4096).map fun c => if c < 1380 then ⟨0, 0⟩ else if c = 1380 then ⟨0, 3⟩ else ⟨3, 0⟩,
    cellIndex := [0, 1, 2], largest := 3 }

/-- The snapshot of section 6.7. -/
def workedSnapshot (exclusions : List Word16) (aperture : Int) : Snapshot where
  sample := ⟨pointer, true, 41⟩
  view := workedView
  aperture := aperture
  kindEnable := 127
  layerMask := 18446744073709551615
  budget := 1024
  gridEnable := 0
  gridPitchX := 1000
  gridPitchY := 1000
  gridOriginX := 0
  gridOriginY := 0
  constraint := 0
  lengthStep := 0
  directions := []
  gestureState := .idle
  gestureKind := .point
  anchor := none
  exclusions := exclusions
  bank := some .snap0

/-- A search of section 6.7 in flight over the worked bank. -/
def searching (exclusions : List Word16) (aperture : Int) : State :=
  { State.reset with
    tbs := { resetTbs with bank0 := workedBank .active, pin := some .snap0 }
    sse := { resetSse with flight := some ⟨workedSnapshot exclusions aperture, ⟨0, 0, 0, none⟩⟩ } }

/-- A state with the worked bank ACTIVE, this verify interval and this count toward it. -/
def atInterval (n : Int) (count : Nat) (s : State) : State :=
  { s with
    pds := { s.pds with settings := { s.pds.settings with reports := [⟨0, none⟩, ⟨n, none⟩] } }
    tbs := { s.tbs with bank0 := workedBank .active, interval := count } }

/-! ## Ill-formed terms -/

theorem test_wellFormed_refuses_known_class : WellFormed (.packetUnknownClass 0x41 0 []) = false := by decide
theorem test_wellFormed_refuses_long_payload : WellFormed (.echo 0 (List.replicate 241 0)) = false := by decide +kernel
theorem test_wellFormed_refuses_low_status_byte : WellFormed (.tabletFrame 0x7F 0 0 0 0 0 0 0) = false := by decide
theorem test_wellFormed_refuses_high_data_byte : WellFormed (.tabletFrame 0xC0 0 0 0x80 0 0 0 0) = false := by decide
theorem test_wellFormed_takes_longest_payload : WellFormed (.echo 0 (List.replicate 240 0)) = true := by decide +kernel

/-! ## Arithmetic (the worked cases of chapter 3, and R75) -/

theorem test_calibration_negative_scale : (calibrateAxis 20000 (-163840) 100000) = valid 50000 := by decide
theorem test_calibration_saturates : calibrateAxis 65535 65536 8350000 = ⟨8388607, .offSheet⟩ := by decide
theorem test_projection_rounds_half_up : project workedView pointer = some (1563, 1016) := by decide
theorem test_projection_of_C : project workedView (pt 150000 87800) = some (1563, 1006) := by decide
theorem test_cover_radius : coverRadius 10 2048 = 352 := by decide
theorem test_cell_number : cellNumber 12 0 0 150200 87400 = 1380 := by decide
theorem test_cell_below_origin : cellOnAxis 12 0 (-1) = 0 := by decide
theorem test_circle_radius : circleRadius 45 = 7 := by decide
theorem test_crc_of_zero_byte : crcByte 0xFFFF 0 = 0x50C5 := by decide
theorem test_ghost_displacement :
    displace (pt 150200 87400) (pt 150000 87800) (pt 150200 87400) = pt 150000 87800 := by decide

/-! ## Video path -/

theorem test_frame_start_enters_confirm :
    after (.frameStart 0 false false false)
      { State.reset with vpl := { resetVpl with record := ⟨true, 1920, true, 1080⟩ } }
      (fun t => (t.vpl.lock, t.vpl.candidate)) = some (.confirm, some (1920, 1080)) := by decide

theorem test_frame_start_acquires :
    after (.frameStart 0 false false false)
      { State.reset with vpl :=
        { resetVpl with lock := .confirm, candidate := some (1920, 1080), record := ⟨true, 1920, true, 1080⟩ } }
      (fun t => (t.vpl.lock, t.vpl.width, t.rlt.queue.map fun r => payloadBytes r.body)) =
      some (.locked, 1920, [[2, 0, 0, 0, 0, 0x07, 0x80, 0x04, 0x38]]) := by decide

theorem test_line_end_short_line :
    after (.lineEnd 0 true false) { locked with vpl := { locked.vpl with run := 319, record := ⟨true, 320, true, 5⟩ } }
      (fun t => (t.vpl.lock, t.vpl.windowOpen, t.rlt.queue.map fun r => payloadBytes r.body)) =
      some (.search, false, [[0, 1, 1, 0, 5, 0x01, 0x40, 0, 0xF0]]) := by decide

theorem test_line_end_measures :
    after (.lineEnd 0 true false) { State.reset with vpl := { resetVpl with run := 640 } }
      (fun t => (t.vpl.run, t.vpl.record)) = some (0, ⟨false, 640, true, 1⟩) := by decide

theorem test_pixel_outside_window_passes :
    after (.pixelCycle 0x123456 false false) State.reset (fun t => (t.vpl.run, t.vpl.path.map PathCycle.outVd)) =
      some (1, [0x123456]) := by decide

theorem test_pixel_inverted_by_cursor :
    after (.pixelCycle 0x0F0F0F false false)
      { locked with
        vpl := { locked.vpl with windowOpen := true, run := 15 },
        ovc := { resetOvc with
          latch := { resetOvc.latch with styleCursor := ⟨1, 0, 0, 0, 1, 0⟩ }, display := [⟨.cursor, .segment 15 0 15 0⟩] } }
      (fun t => t.vpl.path.map PathCycle.outVd) = some [0xF0F0F0] := by decide

theorem test_vcx_in_active_video_sets_flag :
    after (.vcxInActiveVideo 0xB60000 false false) State.reset
      (fun t => (t.pds.linkErr, t.pds.receive, t.vpl.run)) = some (true, .hunt, 1) := by decide

theorem test_control_bytes_in_order :
    after (.controlByteCycle 0xB64000 false false) State.reset
      (fun t => (t.pds.receive, t.vpl.path.map PathCycle.outVd)) = some (.tag 0x40 0, [0]) := by decide

theorem test_lock_silence :
    after .lockSilenceExpiry locked (fun t => (t.vpl.lock, t.rlt.queue.map fun r => payloadBytes r.body)) =
      some (.lost, [[3, 2, 0, 0, 0, 0x01, 0x40, 0, 0xF0]]) := by decide

theorem test_power_on_samples_straps :
    after (.powerOn ⟨true, true, false, true⟩) locked (fun t => (t.vpl.lock, t.ptu.rate, t.rlt.rate)) =
      some (.search, .r115200, .r460800) := by decide

theorem test_pin_cuts_transmission :
    after .resetPinAssert
      { State.reset with rlt := { resetRlt resetStraps with transmission := some ⟨⟨0, .syncDone⟩, 0, 0, 0⟩ } }
      (fun t => (t.rlt.transmission, t.resetAsserted)) = some (none, true) := by decide

theorem test_pin_release :
    after (.resetPinRelease resetStraps) { locked with resetAsserted := true }
      (fun t => (t.vpl.lock, t.resetAsserted)) = some (.search, false) := by decide

/-! ## Packets -/

theorem test_unknown_class :
    after (.packetUnknownClass 0x50 9 []) State.reset (fun t => t.rlt.queue) =
      some [⟨9, .error 0x50 .cls none⟩] := by decide

theorem test_set_pends_while_locked :
    after (.set 1 [3, 0, 0, 0, 0, 5]) locked (fun t => t.pds.settings.markers.head?) =
      some (some ⟨1, some 5⟩) := by decide

theorem test_set_clamps_at_once :
    after (.set 1 [0, 2, 0x7F, 0xFF, 0xFF, 0xFF]) State.reset
      (fun t => (t.pds.settings.view[2]?.map FieldCell.current, t.sse.flight.isSome)) =
      some (some 1048576, true) := by decide

theorem test_read_layout :
    after (.read 4 [7]) State.reset (fun t => t.rlt.queue.map fun r => payloadBytes r.body) =
      some [[7, 0, 0, 0, 0, 0, 0, 0, 0, 0, 0]] := by decide

theorem test_read_identity :
    after (.readIdentity 1) State.reset (fun t => t.rlt.queue.map fun r => payloadBytes r.body) =
      some [[12, 0, 0, 0x0D, 0x1A, 0, 0, 0, 0x72, 0x30, 0, 0, 0, 0, 1, 0]] := by decide

theorem test_read_status_clears :
    after (.readStatus 1) { State.reset with pds := { resetPds with linkErr := true } }
      (fun t => (t.pds.linkErr, t.rlt.queue.length)) = some (false, 1) := by decide

theorem test_read_status_dropped_keeps_flags :
    after (.readStatus 1) (waiting 16 { State.reset with pds := { resetPds with linkErr := true } })
      (fun t => (t.pds.linkErr, t.pds.reportOverrun, t.rlt.overrun)) = some (true, true, true) := by decide

theorem test_sync_at_once : after (.sync 13 []) State.reset (fun t => t.rlt.queue) = some [⟨13, .syncDone⟩] := by decide

theorem test_sync_waits :
    after (.sync 13 []) { locked with tbs := { resetTbs with mark := some ⟨none, 1⟩ } } (fun t => t.pds.fence) =
      some [13] := by decide

theorem test_echo : after (.echo 5 [0x00, 0xA5]) State.reset (fun t => t.rlt.queue) =
    some [⟨5, .echo [0xFF, 0x5A]⟩] := by decide

theorem test_reset_gesture_keeps_kind :
    after (.resetGesture 9) (gesturing .line .tracking [pt 1 2])
      (fun t => (t.gcu.live.kind, t.gcu.live.state, t.rlt.queue)) =
      some (.line, .idle, [⟨9, .cancelled .reset 8 .line 1 .reset⟩, ⟨9, .resetDone .gesture⟩]) := by decide

theorem test_reset_tables_gives_fate :
    after (.resetTables 9) (searching [] 10) (fun t => (t.tbs.bank0.state, t.tbs.bank0.fate, t.tbs.pin)) =
      some (.ready, some .empty, some .snap0) := by decide

theorem test_reset_settings :
    after (.resetSettings 9) locked (fun t => (t.ovc.restart, t.pds.settings == resetSettings, t.rlt.queue)) =
      some (true, true, [⟨9, .resetDone .settings⟩]) := by decide

theorem test_reset_all_flushes :
    after (.resetAll 99) (waiting 3 locked) (fun t => (t.rlt.queue, t.vpl.lock, t.ptu.mailbox.sequence)) =
      some ([⟨99, .resetDone .all⟩], .locked, 0) := by decide

/-- R166 and R172: the CANCELLED of step 1 meets the full queue. -/
theorem test_reset_all_drops_cancelled :
    after (.resetAll 99) (waiting 16 (gesturing .line .armed []))
      (fun t => (t.rlt.queue, t.rlt.overrun, t.pds.reportOverrun)) =
      some ([⟨99, .resetDone .all⟩], true, true) := by decide

/-! ## Tables -/

theorem test_load_begin_clamps_shift :
    after (.loadBegin 5 [1, 0, 7, 30, 0, 0, 0, 0x80, 0, 0]) State.reset
      (fun t => (t.tbs.bank1.state, t.tbs.bank1.shift, t.tbs.bank1.originY)) =
      some (.loading, 20, -8388607) := by decide

theorem test_load_begin_count :
    after (.loadBegin 5 [3, 0, 25]) State.reset (fun t => t.rlt.queue) = some [⟨5, .error 0x10 .count none⟩] := by decide

theorem test_load_data_entry :
    after (.loadData 6 [0, 0, 0, 0x02, 0x4A, 0xB8, 0x01, 0x55, 0x68, 0x00, 0x02, 0x01, 0x36])
      { State.reset with tbs := { resetTbs with bank0 := { emptyBank with state := .loading, count := 3 } } }
      (fun t => (t.tbs.bank0.entries, t.tbs.bank0.cursor)) = some ([entryA], 1) := by decide

theorem test_load_data_sequence :
    after (.loadData 6 [0, 0, 4])
      { State.reset with tbs := { resetTbs with bank0 := { emptyBank with state := .loading, count := 9, cursor := 3 } } }
      (fun t => t.rlt.queue) = some [⟨6, .error 0x11 .sequence (some 3)⟩] := by decide

theorem test_load_end_mismatch :
    after (.loadEnd 7 [0, 0, 0]) { State.reset with tbs := { resetTbs with bank0 := { emptyBank with state := .loading } } }
      (fun t => (t.tbs.bank0.state, t.rlt.queue)) = some (.damaged, [⟨7, .table (some .snap0) .mismatch⟩]) := by decide

theorem test_load_end_short :
    after (.loadEnd 7 [0, 0, 0])
      { State.reset with tbs := { resetTbs with bank0 := { emptyBank with state := .loading, count := 1 } } }
      (fun t => t.rlt.queue) = some [⟨7, .error 0x12 .short none⟩] := by decide

theorem test_activate_swaps :
    after (.activate 8 [1])
      { State.reset with tbs := { resetTbs with bank0 := workedBank .active, bank1 := workedBank .ready } }
      (fun t => (t.tbs.bank0.state, t.tbs.bank1.state, t.rlt.queue)) =
      some (.ready, .active, [⟨8, .table (some .snap1) .activated⟩]) := by decide

theorem test_verify_not_ready :
    after (.verify 50 []) State.reset (fun t => t.rlt.queue) = some [⟨50, .error 0x14 .notReady none⟩] := by decide

theorem test_verify_complete_damages :
    after (.verifyComplete 1)
      { State.reset with tbs :=
        { resetTbs with bank0 := { emptyBank with state := .active, acceptedCrc := some 0xFFFF },
                        verify := some ⟨.snap0, 0, 0xFFFF, 0⟩ } }
      (fun t => (t.tbs.bank0.state, t.tbs.snapDown, t.rlt.queue)) =
      some (.damaged, true, [⟨0, .table (some .snap0) .damaged⟩]) := by decide

theorem test_verify_complete_verified :
    after (.verifyComplete 0)
      { State.reset with tbs :=
        { resetTbs with bank0 := { emptyBank with state := .active, acceptedCrc := some 0xFFFF },
                        verify := some ⟨.snap0, 0, 0xFFFF, 12⟩ } }
      (fun t => (t.tbs.bank0.state, t.rlt.queue)) = some (.active, [⟨12, .table (some .snap0) .verified⟩]) := by decide

theorem test_build_files_entries :
    after (.buildComplete .snap0)
      { State.reset with tbs := { resetTbs with bank0 := { workedBank .building with directory := [], cellIndex := [] } } }
      (fun t => (t.tbs.bank0.state, t.tbs.bank0.cellIndex, t.tbs.bank0.directory[1380]?, t.tbs.bank0.directory[1381]?)) =
      some (.ready, [0, 1, 2], some ⟨0, 3⟩, some ⟨3, 0⟩) := by decide +kernel

theorem test_interval_expiry :
    after .verifyIntervalExpiry
      { locked with
        tbs := { resetTbs with bank0 := workedBank .active, interval := 3599 }
        pds := { resetPds with settings := { resetSettings with reports := [⟨0, none⟩, ⟨3600, none⟩] } } }
      (fun t => (t.tbs.interval, t.tbs.verify)) = some (0, some ⟨.snap0, 0, 0xFFFF, 0⟩) := by decide

theorem test_set_of_two_fields :
    after (.set 1 [5, 0, 0, 0, 0, 10, 1, 0, 0, 0, 30]) locked (fun t => t.pds.settings.blink.map FieldCell.pending) =
      some [some 10, some 9] := by decide

theorem test_interval_expiry_waits :
    after .verifyIntervalExpiry (atInterval 3600 3598 locked) (fun t => (t.tbs.interval, t.tbs.verify)) = some (3598, none) ∧
    after .verifyIntervalExpiry (atInterval 3600 3599 State.reset) (fun t => (t.tbs.interval, t.tbs.verify)) =
      some (3599, none) := by decide

/-! ## Search -/

theorem test_publish_nearest :
    after .searchPublish (searching [] 10)
      (fun t => (t.sse.published.source, t.sse.published.point, t.sse.published.object, t.tbs.pin)) =
      some (.object, pt 150200 87400, some ⟨0, .endpoint, 2, 310, 45, .snap0⟩, none) := by decide +kernel

theorem test_publish_excluded :
    after .searchPublish (searching [310] 10) (fun t => t.sse.published.object) =
      some (some ⟨2, .center, 5, 422, 100, .snap0⟩) := by decide +kernel

theorem test_publish_small_aperture :
    after .searchPublish (searching [] 6) (fun t => (t.sse.published.source, t.sse.published.point)) =
      some (.raw, pointer) := by decide +kernel

/-- R46 to R49 and R110 on the worked pointer, ORTHO from (100,000, 80,000). -/
theorem test_publish_constrained :
    let n : Snapshot := { workedSnapshot [] 0 with
      constraint := 1, gestureState := .tracking, gestureKind := .line, anchor := some (pt 100000 80000) }
    after .searchPublish { searching [] 0 with sse := { resetSse with flight := some ⟨n, ⟨0, 0, 0, none⟩⟩ } }
      (fun t => (t.sse.published.source, t.sse.published.point)) =
      some (.constrained, pt 150000 80000) := by decide +kernel

/-- R44 and R111 on the worked pointer, the pitch 1,000: the nearest intersection is (150,000, 88,000), ties upward. -/
theorem test_publish_grid :
    let n : Snapshot := { workedSnapshot [] 0 with gridEnable := 1 }
    after .searchPublish { searching [] 0 with sse := { resetSse with flight := some ⟨n, ⟨0, 0, 0, none⟩⟩ } }
      (fun t => (t.sse.published.source, t.sse.published.point)) = some (.grid, pt 150000 88000) := by decide +kernel

/-! ## Gestures -/

theorem test_gesture_with_anchor :
    after (.gesture 21 [2, 3, 0x01, 0x86, 0xA0, 0x01, 0x38, 0x80, 0x01, 0x36]) State.reset
      (fun t => t.gcu.live) =
      some ⟨.chain, .tracking, [pt 100000 80000], true, [310], 1⟩ := by decide

theorem test_gesture_point_with_anchor :
    after (.gesture 21 [0, 2, 0, 0, 1, 0, 0, 1]) State.reset (fun t => t.rlt.queue) =
      some [⟨21, .error 0x20 .state none⟩] := by decide

theorem test_commit_ends_line :
    after (.commit 3 []) (showing pointer (gesturing .line .tracking [pt 1 2]))
      (fun t => (t.gcu.live.state, t.gcu.live.epoch, t.rlt.queue.map fun r => payloadBytes r.body)) =
      some (.idle, 8,
        [[4, 0, 8, 1, 0, 41, 0x02, 0x49, 0xF0, 0x01, 0x55, 0xCC, 0, 0x08], [4, 0, 8, 1, 2, 0, 0]]) := by decide

theorem test_commit_duplicate :
    after (.commit 3 []) (showing pointer (gesturing .chain .tracking [pointer])) (fun t => t.rlt.queue) =
      some [⟨3, .error 0x21 .state none⟩] := by decide

theorem test_end_of_chain :
    after (.endGesture 3 []) (gesturing .chain .tracking [pt 1 2, pt 3 4]) (fun t => t.rlt.queue) =
      some [⟨3, .gestureDone .packet 8 .chain 2 .normal false⟩] := by decide

theorem test_end_of_line_cancels :
    after (.endGesture 3 []) (gesturing .line .tracking [pt 1 2]) (fun t => t.rlt.queue) =
      some [⟨3, .cancelled .packet 8 .line 1 .request⟩] := by decide

theorem test_cancel :
    after (.cancel 3 []) (gesturing .rect .armed []) (fun t => (t.gcu.live.state, t.rlt.queue)) =
      some (.idle, [⟨3, .cancelled .packet 8 .rect 0 .request⟩]) := by decide

theorem test_park :
    after (.park 30 2) (gesturing .line .tracking [pt 1 2])
      (fun t => (t.gcu.slot2.map Gesture.epoch, t.gcu.live.epoch, t.rlt.queue.map fun r => payloadBytes r.body)) =
      some (some 7, 8, [[2, 1, 1, 2, 1, 0, 7, 0, 8]]) := by decide

theorem test_copy :
    after (.copy 30 3) (gesturing .line .tracking [pt 1 2])
      (fun t => (t.gcu.slot3 == some t.gcu.live, t.gcu.live.epoch)) = some (true, 7) := by decide

theorem test_resume :
    after (.resume 34 0)
      { State.reset with gcu := { resetGcu with slot0 := some ⟨.line, .tracking, [pt 1 2], false, [], 10⟩ } }
      (fun t => (t.gcu.live, t.gcu.slot0)) = some (⟨.line, .tracking, [pt 1 2], false, [], 1⟩, none) := by decide

theorem test_discard_empty :
    after (.discard 34 1) State.reset (fun t => t.rlt.queue) = some [⟨34, .error 0x24 .state none⟩] := by decide

/-! ## Pointer -/

/-- The frame of the worked calibration: counts (20,000, 15,000), proximity in, button 0 down. -/
def workedFrame : Instr := .tabletFrame 0xC1 1 28 32 0 117 24 11

theorem test_frame_places_sample :
    after workedFrame State.reset (fun t => (t.ptu.mailbox.sequence, t.ptu.buttons, t.rlt.queue.length)) =
      some (1, 1, 1) := by decide

theorem test_frame_bad_check :
    after (.tabletFrame 0xC1 1 28 32 0 117 24 12) State.reset (fun t => (t.pds.tabletErr, t.ptu.mailbox.proximity)) =
      some (true, false) := by decide

theorem test_tablet_byte_cuts_short :
    after (.tabletByte 0xC0) { State.reset with ptu := { resetPtu resetStraps with receiver := .collect [0xC0, 1] } }
      (fun t => (t.ptu.receiver, t.pds.tabletErr)) = some (.collect [0xC0], true) := by decide

theorem test_framing_error :
    after .tabletFramingError { State.reset with ptu := { resetPtu resetStraps with receiver := .collect [0xC0, 1] } }
      (fun t => (t.ptu.receiver, t.pds.tabletErr)) = some (.hunt, true) := by decide

theorem test_line_return_high :
    after .tabletLineReturnHigh { State.reset with ptu := { resetPtu resetStraps with lineLow := true } }
      (fun t => t.ptu.lineLow) = some false := by decide

theorem test_tablet_silence :
    after .tabletSilenceExpiry
      { State.reset with ptu :=
        { resetPtu resetStraps with mailbox := ⟨pointer, true, 9⟩, sequence := 9, buttons := 3, silence := .running 250 } }
      (fun t => (t.ptu.mailbox, t.ptu.buttons, t.ptu.silence)) = some (⟨pointer, false, 10⟩, 0, .stopped) := by decide

theorem test_pointer_refused :
    after (.pointer 8 [0, 0, 0, 0, 0, 0, 1, 0]) State.reset (fun t => t.rlt.queue) =
      some [⟨8, .error 0x30 .source none⟩] := by decide

/-! ## Overlay and return lane -/

/-- The worked segment of chapter 8: listed from (10, 4) to (2, 7). -/
theorem test_worked_segment :
    [segmentPhase 10 4 2 7 2 7, segmentPhase 10 4 2 7 10 4, segmentPhase 10 4 2 7 6 6, segmentPhase 10 4 2 7 6 5] =
      [some 8, some 0, some 4, none] := by decide

theorem test_worked_circle :
    (List.range 20).filter (fun n => circleLit 0 0 7 ((n : Int) - 10) 0) = [3, 17] := by decide

theorem test_transmission_carries_overrun :
    after (.reportTxStart false)
      { State.reset with rlt := { resetRlt resetStraps with queue := [⟨13, .syncDone⟩], overrun := true } }
      (fun t => (t.rlt.transmission.map laneBytes, t.rlt.overrun, t.rlt.queue)) =
      some (some [0xB9, 0x89, 0, 13, 1, 0x69], false, []) := by decide

theorem test_hold_keeps_reports :
    after (.reportTxStart true) (waiting 2 State.reset) (fun t => (t.rlt.transmission, t.rlt.queue.length)) =
      some (none, 2) := by decide

theorem test_transmission_ends :
    after .reportTxEnd
      { State.reset with rlt := { resetRlt resetStraps with transmission := some ⟨⟨0, .syncDone⟩, 0, 0, 0⟩ } }
      (fun t => t.rlt.transmission) = some none := by decide

/-- R164: 0xB9 is sent as its start bit, its bits from the least significant, and its stop bit. -/
theorem test_character_bits :
    characterBits 0xB9 = [false, true, false, false, true, true, true, false, true, true] := by decide

/-! ## Witnesses: each statement's hypotheses are met together, clause by clause, at the ends of their ranges -/

def held : State := { State.reset with resetAsserted := true }
def video (f : Vpl → Vpl) (s : State) : State := { s with vpl := f s.vpl }
def tables (f : Tbs → Tbs) (s : State) : State := { s with tbs := f s.tbs }
def pointing (f : Ptu → Ptu) (s : State) : State := { s with ptu := f s.ptu }
/-- A MOVE in ARMED or TRACKING, as the statements about the ghost table write it out. -/
abbrev moving (s : State) : Prop := s.gcu.live.kind = .move ∧ (s.gcu.live.state = .armed ∨ s.gcu.live.state = .tracking)
/-- The duplicate test of R35, as the statements about placing write it out. -/
abbrev samePlace (p q : Point) : Prop :=
  p.x.cls = .valid ∧ p.y.cls = .valid ∧ q.x.cls = .valid ∧ q.y.cls = .valid ∧ p.x.value = q.x.value ∧
    p.y.value = q.y.value
def marked : State := tables (fun t => { t with bank1 := workedBank .ready, mark := some ⟨some .snap1, 1⟩ }) locked

theorem witness_StepTakesTheFrontCommand :
    ({ State.reset with pending := [.searchPublish] } : State).pending = .searchPublish :: [] ∧
    State.reset.pending = [] := by decide

theorem witness_PowerOnAndReleaseLeaveTheResetValues : held.resetAsserted = true := by decide

theorem witness_AssertedPinHoldsEveryBlock :
    held.resetAsserted = true ∧ isVideo .searchPublish = false ∧ isPowerOrPin .searchPublish = false ∧
    held.vpl.windowOpen = false := by decide

theorem witness_ControlByteCycleHandsOnThreeBytes :
    let line (n : Nat) := video (fun v => { v with run := n }) locked
    Running locked ∧ locked.vpl.run = 0 ∧ (false = true → locked.vpl.prevVvs = true) ∧
    Running (line 1) ∧ 0 < (line 1).vpl.run ∧ 0 < (line 4095).vpl.run ∧
    (false = true → (line 1).vpl.prevVvs = true) := by decide

theorem witness_PixelCycleIsCountedAndAnswered :
    let s1 (n : Nat) := video (fun v => { v with run := n }) State.reset
    let s2 := video (fun v => { v with windowOpen := true, run := 319 }) locked
    let s3 := video (fun v => { v with windowOpen := true, record := ⟨true, 320, true, 239⟩ }) locked
    (Running (s1 0) ∧ (false = true → (s1 0).vpl.prevVvs = true) ∧ (s1 0).vpl.awaitActive = false ∧
      (s1 0).vpl.lock ≠ .locked ∧ (s1 0).vpl.windowOpen = false) ∧
    ((s1 4095).vpl.run = 4095 ∧ (s1 4095).vpl.lock ≠ .locked ∧ (s1 4095).vpl.windowOpen = false) ∧
    (Running s2 ∧ s2.vpl.awaitActive = false ∧ s2.vpl.lock = .locked ∧ s2.vpl.windowOpen = true ∧ s2.vpl.run < 4095 ∧
      s2.vpl.run ≠ s2.vpl.width ∧ (s2.vpl.run = 0 → s2.vpl.record.lines ≠ s2.vpl.height)) ∧
    (s3.vpl.run = 0 ∧ s3.vpl.run ≠ s3.vpl.width ∧ (s3.vpl.run = 0 → s3.vpl.record.lines ≠ s3.vpl.height)) := by decide

theorem witness_LineEndMeasuresTheLine :
    let s1 := video (fun v => { v with run := 1 }) State.reset
    let line (n : Nat) := video (fun v => { v with run := 320, record := ⟨true, 320, true, n⟩ }) locked
    let s2 := line 239
    let s3 := atInterval 2 1 s2
    let busy := tables (fun t => { t with verify := some ⟨.snap0, 0, 0xFFFF, 0⟩ }) s3
    let down := tables (fun t => { t with bank0 := workedBank .ready }) s3
    (Running s1 ∧ (false = true → s1.vpl.prevVvs = true) ∧ 0 < s1.vpl.run ∧ s1.vpl.lock ≠ .locked) ∧
    (State.reset.vpl.run = 0 ∧ locked.vpl.run = 0) ∧
    (Running (line 238) ∧ 0 < (line 238).vpl.run ∧ (line 238).vpl.lock = .locked ∧
      (line 238).vpl.run = (line 238).vpl.width ∧ (line 238).vpl.record.lines + 1 ≠ (line 238).vpl.height) ∧
    (Running s2 ∧ 0 < s2.vpl.run ∧ s2.vpl.lock = .locked ∧ s2.vpl.run = s2.vpl.width ∧
      s2.vpl.record.lines + 1 = s2.vpl.height ∧ verifyInterval s2.pds.settings = 0) ∧
    ((atInterval 2 0 s2).tbs.interval + 1 < verifyInterval (atInterval 2 0 s2).pds.settings) ∧
    (verifyInterval s3.pds.settings ≠ 0 ∧ verifyInterval s3.pds.settings ≤ s3.tbs.interval + 1 ∧
      activeBank s3.tbs = some .snap0 ∧ s3.tbs.verify = none) ∧
    (verifyInterval busy.pds.settings ≤ busy.tbs.interval + 1 ∧ busy.tbs.verify ≠ none) ∧
    (verifyInterval down.pds.settings ≤ down.tbs.interval + 1 ∧ activeBank down.tbs = none) := by decide

theorem witness_LockFaultsEndTheLock :
    let s1 := video (fun v => { v with run := 319 }) locked
    let s2 := video (fun v => { v with run := 320 }) locked
    let s3 := video (fun v => { v with record := ⟨true, 320, true, 240⟩ }) locked
    let s4 := video (fun v => { v with record := ⟨true, 320, true, 239⟩ }) locked
    let s5 := video (fun v => { v with awaitActive := true }) locked
    (Running s1 ∧ s1.vpl.lock = .locked ∧ (false = true → s1.vpl.prevVvs = true) ∧
      0 < s1.vpl.run ∧ s1.vpl.run < s1.vpl.width) ∧
    (0 < s2.vpl.run ∧ s2.vpl.run = s2.vpl.width ∧ s2.vpl.awaitActive = false) ∧
    (s3.vpl.run = 0 ∧ s3.vpl.record.lines = s3.vpl.height ∧ s3.vpl.awaitActive = false) ∧
    (s4.vpl.prevVvs = false ∧ s4.vpl.run = 0 ∧ s4.vpl.record.lines < s4.vpl.height) ∧
    (s5.vpl.prevVvs = false ∧ s5.vpl.run = 0 ∧ s5.vpl.record.lines < s5.vpl.height) ∧
    (s1.vpl.prevVvs = false ∧ 0 < (video (fun v => { v with run := 1 }) locked).vpl.run ∧ 1 < s1.vpl.width) := by decide

theorem witness_FrameStartJudgesTheClosingFrame :
    let s1 := video (fun v => { v with record := ⟨true, 2560, true, 2048⟩ }) State.reset
    let s2 := video (fun v => { v with record := ⟨true, 2561, true, 2048⟩ }) State.reset
    let s3 := waiting 15 (video (fun v =>
      { v with lock := .confirm, candidate := some (320, 240), record := ⟨true, 320, true, 240⟩ }) State.reset)
    let s4 (lines run : Nat) := video (fun v => { v with record := ⟨true, 320, true, lines⟩, run := run }) locked
    let s5 := video (fun v => { v with lock := .lost }) State.reset
    let s6 := video (fun v => { v with candidate := some (320, 241) }) s3
    (Running s1 ∧ s1.vpl.prevVvs = false ∧ s1.vpl.run = 0 ∧ s1.vpl.lock = .search ∧
      s1.vpl.record.usable = true ∧ s1.vpl.record.firstLength ≤ 2560 ∧ s1.vpl.record.lines ≤ 2048) ∧
    (s2.vpl.lock = .search ∧ ¬s2.vpl.record.firstLength ≤ 2560) ∧
    (Running s3 ∧ s3.vpl.lock = .confirm ∧ s3.vpl.record.usable = true ∧ s3.vpl.record.uniform = true ∧
      1 ≤ s3.vpl.record.lines ∧ s3.vpl.candidate = some (s3.vpl.record.firstLength, s3.vpl.record.lines)) ∧
    (s6.vpl.lock = .confirm ∧ s6.vpl.candidate ≠ some (s6.vpl.record.firstLength, s6.vpl.record.lines)) ∧
    ((s4 240 0).vpl.lock = .locked ∧ (s4 240 0).vpl.record.lines = (s4 240 0).vpl.height) ∧
    (s4 239 0).vpl.record.lines < (s4 239 0).vpl.height ∧ s5.vpl.lock = .lost ∧
    (0 < (s4 239 320).vpl.run ∧ (s4 239 320).vpl.run = (s4 239 320).vpl.width) ∧
    (0 < (s4 239 319).vpl.run ∧ (s4 239 319).vpl.run < (s4 239 319).vpl.width) := by decide

theorem witness_LockSilenceEntersLost :
    Running State.reset ∧ State.reset.vpl.silence = .running 100 ∧ State.reset.vpl.lock = .search ∧
    locked.vpl.silence = .running 100 ∧ locked.vpl.lock = .locked := by decide

theorem witness_OutputFollowsInputBy2624Cycles :
    (∃ cs : List Instr, PathOk State.reset ∧ videoLevels (.pixelCycle 5 true false) = some (true, false, true) ∧
      cs.length = 2624 ∧ ∀ d ∈ cs, isVideo d = true) ∧
    State.reset.vpl.path.length < 2624 ∧
    (let full := video (fun v => { v with path := List.replicate 2624 ⟨7, false, false, true, 9⟩ }) State.reset
    PathOk full ∧ full.vpl.path.length = 2624) ∧
    ∃ rest : List PathCycle, List.replicate 2624 (⟨7, false, false, true, 9⟩ : PathCycle) =
      rest ++ [⟨7, false, false, true, 9⟩] :=
  ⟨⟨List.replicate 2624 (.lineEnd 0 false false), by decide, by decide, List.length_replicate,
      fun d h => by rw [List.eq_of_mem_replicate h]; rfl⟩, by decide,
    ⟨le_of_eq List.length_replicate, List.length_replicate⟩, _, List.replicate_succ' (n := 2623)⟩

theorem witness_OnlyVideoEventsChangeTheVideoPath :
    isVideo (.echo 1 []) = false ∧ isPowerOrPin (.echo 1 []) = false ∧ Instr.echo 1 [] ≠ .lockSilenceExpiry ∧
    ∃ t, exec (.echo 1 []) locked = .next t := ⟨by decide, by decide, by decide, _, rfl⟩

theorem witness_PacketBytesReachTheirOwner :
    State.reset.pds.receive = .hunt ∧ Running State.reset ∧ (0xB5 : Byte) ≠ 0xB6 ∧
    (0x41 : Byte) + BitVec.ofNat 8 0 + 7 + ([] : List Byte).foldl (· + ·) 0 + 0xB8 = 0 ∧
    (0x41 : Byte) + BitVec.ofNat 8 0 + 7 + ([] : List Byte).foldl (· + ·) 0 + 0xB7 ≠ 0 ∧ 240 < (241 : Byte).toNat ∧
    (0 < 16 ∧ 15 < 16) ∧ (4 ≤ (4 : Byte).toNat ∧ 4 ≤ (255 : Byte).toNat) ∧ ([] : List Byte).length ≠ 1 ∧
    ([0, 0] : List Byte).length ≠ 1 := by
  decide

theorem witness_UnknownClassesAndWrongLengthsAreRefused :
    240 < (List.replicate 241 (0 : Byte)).length ∧
    (Running locked ∧ (0x50 : Byte) ∉ classCodes ∧ ([0] : List Byte) ≠ [] ∧ ([0, 0] : List Byte).length ≠ 1 ∧
      ([0, 0] : List Byte).length < 3) ∧
    (setPairs 2 [2, 0, 0, 0, 0, 0, 0, 0] = none ∧ setPairs 3 [0, 0, 0, 0] = none ∧
      ([0, 0, 0, 0, 0, 0, 0] : List Byte).length < 8 ∧ 8 ≤ ([0, 0, 0, 0, 0, 0, 0, 0] : List Byte).length) ∧
    ((1 : Byte).toNat ≤ 1 ∧ ([] : List Byte).length ≠ 9 ∧ (3 : Byte).toNat ≤ 3 ∧ ([0] : List Byte).length ≠ 2 ∧
      ([0, 0] : List Byte).length ≠ 3) ∧
    (([0] : List Byte).length % 10 ≠ 0 ∧ ([0] : List Byte).length % 12 ≠ 0 ∧ ([0] : List Byte).length % 4 ≠ 0 ∧
      ([0] : List Byte).length % 8 ≠ 0) ∧
    ((2 : Byte).getLsbD 1 = true ∧ ([0, 0, 0, 0] : List Byte).length < 6 ∧ ([0] : List Byte).length % 2 = 1) := by
  rw [List.length_replicate]
  decide +kernel

theorem witness_SetWritesTheNamedGroup :
    (List.replicate 239 (0 : Byte)).length ≤ 239 ∧
    (Running locked ∧ locked.vpl.lock = .locked ∧ Running State.reset ∧ State.reset.vpl.lock ≠ .locked) ∧
    (groupOf 3 = some .markers ∧ groupOf 3 ≠ none ∧ setPairs 3 [0, 0, 0, 0, 5] = some [(0, 5)] ∧
      fieldsKnown .markers [(0, 5)] = true ∧ setPairs 3 [0, 0, 0, 0, 5, 8, 0, 0, 0, 127] = some [(0, 5), (8, 127)] ∧
      fieldsKnown .markers [(0, 5), (8, 127)] = true ∧ 0 < (groupCells locked.pds.settings .markers).length) ∧
    (groupOf 5 = some .blink ∧ setPairs 5 [0, 0, 0, 0, 1] = some [(0, 1)] ∧ fieldsKnown .blink [(0, 1)] = true ∧
      groupOf 0 = some .view ∧ fieldsKnown .view [(0, 5)] = true ∧
      0 < (groupCells State.reset.pds.settings .view).length) ∧
    (setPairs 2 [2, 255, 255, 255, 255, 255, 255, 255, 255] = some [(2, 18446744073709551615)] ∧
      ¬((2 : Byte) = 2 ∧ (3 : Byte) = 2) ∧ ([0, 0, 0, 5] : List Byte).length = 4 ∧
      ([0, 0, 0, 0, 0, 0, 0, 127] : List Byte).length = 8) ∧
    (setPairs 3 [9, 0, 0, 0, 5] = some [(9, 5)] ∧ fieldsKnown .markers [(9, 5)] = false ∧ groupOf 12 = none ∧
      setPairs 12 [] ≠ none) := by
  rw [List.length_replicate]
  decide +kernel

theorem witness_SetClampsAndWritesOneField :
    Running locked ∧ locked.vpl.lock = .locked ∧ State.reset.vpl.lock ≠ .locked ∧
    (∀ g ∈ [Group.view, .markers, .tablet, .snap, .reports], dependence g = none) ∧
    groupOf 0 = some .view ∧ groupOf 1 = some .tablet ∧ groupOf 3 = some .markers ∧ groupOf 7 = some .reports ∧
    (∀ e ∈ [(Group.view, 2), (.markers, 8), (.tablet, 5), (.reports, 1)],
      (groupSpecs e.1)[e.2]?.map FieldSpec.mask = some none ∧ e.2 < (groupCells State.reset.pds.settings e.1).length) ∧
    State.reset.pds.settings.snap.length = 11 ∧ (-2147483648 : Int) ≤ 2147483647 ∧ (2 ^ 64 - 1 : Nat) < 2 ^ 64 := by
  decide +kernel

theorem witness_SetOfBlinkPeriodClampsOn :
    Running locked ∧ locked.vpl.lock = .locked ∧ Running State.reset ∧ State.reset.vpl.lock ≠ .locked ∧
    (-2147483648 : Int) ≤ 2147483647 ∧ (∃ period on, locked.pds.settings.blink = [period, on]) ∧
    ∃ op a b period on blink, groupCells State.reset.pds.settings .styleGhost = [op, a, b, period, on, blink] :=
  ⟨by decide, by decide, by decide, by decide, by decide, ⟨_, _, rfl⟩, _, _, _, _, _, _, rfl⟩

theorem witness_ReadReportsCurrentValues :
    Running State.reset ∧ groupOf 11 = some .styleGhost ∧ 13 < (14 : Byte).toNat := by decide

theorem witness_ReadIdentityReportsFixedValues : Running (waiting 15 locked) ∧ Room 1 (waiting 15 locked) := by decide

theorem witness_ReadStatusReportsAndClears :
    Running locked ∧ Room 1 (waiting 15 locked) ∧ 16 ≤ (waiting 16 locked).rlt.queue.length := by decide

theorem witness_SyncAnswersOrWaits :
    let fenced (n : Nat) : State := { marked with pds := { marked.pds with fence := List.replicate n 9 } }
    Running marked ∧ pendingItem locked = false ∧ pendingItem (fenced 15) = true ∧ (fenced 15).vpl.lock = .locked ∧
    (fenced 15).pds.fence.length < 16 ∧ pendingItem (fenced 16) = true ∧ 16 ≤ (fenced 16).pds.fence.length := by decide

theorem witness_EchoReturnsTheComplement :
    Running locked ∧ (List.replicate 240 (0 : Byte)).length ≤ 240 ∧ (waiting 15 locked).rlt.queue.length < 16 ∧
    16 ≤ (waiting 16 locked).rlt.queue.length := ⟨by decide, by rw [List.length_replicate], by decide, by decide⟩

theorem witness_ActiveStartIsTheApplyPoint :
    let awaiting := video (fun v => { v with awaitActive := true })
    let s := awaiting marked
    let u (n : Nat) := awaiting (video (fun v => { v with run := n }) State.reset)
    (Running s ∧ s.vpl.lock = .locked ∧ s.vpl.awaitActive = true ∧ (false = true → s.vpl.prevVvs = true) ∧
      s.vpl.run = 0 ∧ s.vpl.record.lines = 0 ∧ 0 < s.vpl.width ∧ 0 < s.vpl.height ∧ s.tbs.mark ≠ none) ∧
    ∀ n ∈ [0, 4095], Running (u n) ∧ (u n).vpl.lock ≠ .locked ∧ (u n).vpl.awaitActive = true ∧
      (u n).vpl.windowOpen = false := by
  decide

theorem witness_ScopedResetsResetTheirScope :
    let s := gesturing .line .tracking [pt 1 2]
    let fenced : State := { marked with pds := { marked.pds with fence := [9] } }
    Running s ∧ s.gcu.live.state ≠ .idle ∧ State.reset.gcu.live.state = .idle ∧ Running fenced ∧
    pendingItem fenced = true ∧ pendingItem State.reset = false ∧ settingsPending fenced.pds.settings = false ∧
    (searching [] 10).tbs.pin = some .snap0 ∧ (searching [] 10).tbs.pin ≠ some .snap1 ∧
    (searching [] 10).sse.flight ≠ none ∧ State.reset.sse.flight = none := by decide

theorem witness_ResetAllFlushesAndResets :
    let full := waiting 16 (gesturing .line .armed [])
    Running (waiting 16 (searching [] 10)) ∧ (searching [] 10).tbs.pin = some .snap0 ∧
    (searching [] 10).tbs.pin ≠ some .snap1 ∧ (searching [] 10).gcu.live.state = .idle ∧ Running full ∧
    full.gcu.live.state ≠ .idle ∧ 16 ≤ full.rlt.queue.length ∧ ¬16 ≤ (waiting 15 full).rlt.queue.length := by decide

theorem witness_FrameReceiverTakesCharacters :
    let s (r : FrameReceiver) (low : Bool) := pointing (fun p => { p with receiver := r, lineLow := low }) State.reset
    Running (s .hunt false) ∧ (s .hunt false).ptu.lineLow = false ∧ (s .hunt false).ptu.receiver = .hunt ∧
    (0x80 : Byte).msb = true ∧ (0x7F : Byte).msb = false ∧
    (s (.collect (List.replicate 6 0)) false).ptu.receiver = .collect (List.replicate 6 0) ∧
    (List.replicate 6 (0 : Byte)).length < 7 ∧ 7 ≤ (List.replicate 7 (0 : Byte)).length ∧
    (s .hunt true).ptu.lineLow = true := by decide

theorem witness_TabletFrameIsJudged :
    let x (b1 b2 b3 : Byte) := b1.toNat * 16384 + b2.toNat * 128 + b3.toNat
    Running State.reset ∧ WellFormed (.tabletFrame 0xC1 3 127 127 3 127 127 67) = true ∧
    State.reset.ptu.lineLow = false ∧ State.reset.ptu.receiver = .hunt ∧ x 3 127 127 = 65535 ∧
    (0xC1 + 3 + 127 + 127 + 3 + 127 + 127) % 128 = 67 ∧ State.reset.ptu.source = .tablet ∧
    (pointing (fun p => { p with source := .packet }) State.reset).ptu.source = .packet ∧
    WellFormed (.tabletFrame 0xC1 4 0 0 0 0 0 69) = true ∧ ¬x 4 0 0 ≤ 65535 := by decide

theorem witness_TabletSilenceMakesThePointerAbsent :
    let s (b : Bool) := pointing (fun p => { p with silence := .running 250, mailbox := ⟨pointer, b, 3⟩ }) State.reset
    Running (s true) ∧ (s true).ptu.silence = .running 250 ∧ (s true).ptu.mailbox.proximity = true ∧
    (s false).ptu.mailbox.proximity = false := by decide

theorem witness_PointerPacketPlaysAFrame :
    Running State.reset ∧ State.reset.ptu.source = .tablet ∧
    (pointing (fun p => { p with source := .packet }) State.reset).ptu.source = .packet ∧ (1 : Byte) ≠ 0 := by decide

theorem witness_LoadBeginOpensALoad :
    let ready := tables (fun t => { t with bank0 := workedBank .ready, pin := some .snap0 }) State.reset
    Running State.reset ∧ (bankOf State.reset.tbs .snap0).state ≠ .active ∧
    ¬((bankOf State.reset.tbs .snap0).state = .ready ∧ State.reset.tbs.pin = some .snap0) ∧
    (64 : Byte).toNat * 256 + (0 : Byte).toNat = 16384 ∧ ¬(64 : Byte).toNat * 256 + (1 : Byte).toNat ≤ 16384 ∧
    (bankOf (tables (fun t => { t with bank0 := workedBank .active }) State.reset).tbs .snap0).state = .active ∧
    ((bankOf ready.tbs .snap0).state = .ready ∧ ready.tbs.pin = some .snap0) ∧
    (0 : Byte).toNat * 256 + (24 : Byte).toNat ≤ 24 ∧ 24 < (0 : Byte).toNat * 256 + (25 : Byte).toNat ∧
    ¬moving State.reset ∧ moving (gesturing .move .armed []) ∧ moving (gesturing .move .tracking [pt 1 2]) ∧
    ¬moving (gesturing .move .idle []) ∧ ¬moving (gesturing .line .armed []) ∧
    (2 : Byte).toNat * 256 + (0 : Byte).toNat = 512 ∧ 512 < (2 : Byte).toNat * 256 + (1 : Byte).toNat ∧
    (0 : Byte).toNat * 256 + (0 : Byte).toNat = 0 ∧ (15 : Byte).toNat % 16 + 1 ≤ 16 ∧ 16 < (15 : Byte).toNat % 16 + 2 ∧
    5 ≤ (5 : Byte).toNat ∧ ([] : List Byte).length ≤ 239 := by decide

theorem witness_LoadDataStoresRecords :
    let loading (n : Nat) (u : State) := tables (fun t => { t with
      bank0 := { emptyBank with state := .loading, count := n }, ghostStage := ⟨.loading, n, 0, 0xFFFF, [], 0, 0⟩,
      directionStage := ⟨.loading, n, 0, 0xFFFF, [], 0, 0⟩, glyphStage := ⟨.loading, n, 0, 0xFFFF, [], 0, 0⟩ }) u
    let s := loading 1 State.reset
    Running s ∧ (bankOf s.tbs .snap0).state = .loading ∧ 0 = (bankOf s.tbs .snap0).cursor ∧
    (bankOf s.tbs .snap0).count = 1 ∧ 1 ≠ (bankOf s.tbs .snap0).cursor ∧ (bankOf s.tbs .snap1).state = .empty ∧
    (bankOf (tables (fun t => { t with bank1 := workedBank .active }) s).tbs .snap1).state = .active ∧
    s.tbs.ghostStage.state = .loading ∧ 0 = s.tbs.ghostStage.cursor ∧ s.tbs.ghostStage.count = 1 ∧
    s.tbs.directionStage.state = .loading ∧ 0 = s.tbs.directionStage.cursor ∧ s.tbs.directionStage.count = 1 ∧
    s.tbs.glyphStage.state = .loading ∧ 0 = s.tbs.glyphStage.cursor ∧ s.tbs.glyphStage.count = 1 ∧
    ¬moving s ∧ moving (loading 1 (gesturing .move .armed [])) ∧
    State.reset.tbs.ghostStage.state ≠ .loading ∧ State.reset.tbs.directionStage.state ≠ .loading ∧
    State.reset.tbs.glyphStage.state ≠ .loading := by decide

/-- Payload lengths for `witness_LoadDataStoresRecords`: one record fits a load of one, two overflow it, the longest end at
237 bytes. -/
theorem witness_LoadDataStoresRecords_lengths :
    (∀ size ∈ [10, 12, 4, 8],
      (List.replicate size (0 : Byte)).length % size = 0 ∧ 0 + (List.replicate size (0 : Byte)).length / size ≤ 1 ∧
      (List.replicate (2 * size) (0 : Byte)).length % size = 0 ∧
      1 < 0 + (List.replicate (2 * size) (0 : Byte)).length / size) ∧
    (List.replicate 237 (0 : Byte)).length ≤ 237 ∧ 5 ≤ (5 : Byte).toNat := by
  refine ⟨by decide, by rw [List.length_replicate], by decide⟩

theorem witness_LoadEndClosesALoad :
    let loading (n : Nat) (u : State) := tables (fun t => { t with
      bank0 := { emptyBank with state := .loading, count := n }, ghostStage := ⟨.loading, n, 0, 0xFFFF, [], 0, 0⟩,
      directionStage := ⟨.loading, n, 0, 0xFFFF, [], 0, 0⟩, glyphStage := ⟨.loading, n, 0, 0xFFFF, [], 0, 0⟩ }) u
    let s (n : Nat) := loading n State.reset
    Running (s 0) ∧ (bankOf (s 0).tbs .snap0).state = .loading ∧
    (bankOf (s 0).tbs .snap0).count ≤ (bankOf (s 0).tbs .snap0).cursor ∧
    (bankOf (s 0).tbs .snap0).runningCrc = (0xFF : Byte) ++ (0xFF : Byte) ∧
    (bankOf (s 0).tbs .snap0).runningCrc ≠ (0xFF : Byte) ++ (0xFE : Byte) ∧
    (bankOf (s 1).tbs .snap0).cursor < (bankOf (s 1).tbs .snap0).count ∧ (bankOf (s 0).tbs .snap1).state = .empty ∧
    ¬moving (s 0) ∧ moving (loading 0 (gesturing .move .tracking [pt 1 2])) ∧
    (s 0).tbs.ghostStage.count ≤ (s 0).tbs.ghostStage.cursor ∧
    (s 0).tbs.ghostStage.runningCrc = (0xFF : Byte) ++ (0xFF : Byte) ∧
    (s 1).tbs.ghostStage.cursor < (s 1).tbs.ghostStage.count ∧
    (s 0).tbs.directionStage.count ≤ (s 0).tbs.directionStage.cursor ∧
    (s 0).tbs.directionStage.runningCrc = (0xFF : Byte) ++ (0xFF : Byte) ∧
    (s 1).tbs.directionStage.cursor < (s 1).tbs.directionStage.count ∧
    (s 0).tbs.glyphStage.count ≤ (s 0).tbs.glyphStage.cursor ∧
    (s 0).tbs.glyphStage.runningCrc = (0xFF : Byte) ++ (0xFF : Byte) ∧
    (s 1).tbs.glyphStage.cursor < (s 1).tbs.glyphStage.count ∧ (loading 0 locked).vpl.lock = .locked ∧
    (s 0).vpl.lock ≠ .locked ∧ State.reset.tbs.glyphStage.state ≠ .loading ∧ 5 ≤ (5 : Byte).toNat ∧
    State.reset.tbs.glyphs.length = 16 := by decide

theorem witness_BuildCompletesReady :
    let s := tables (fun t => { t with bank0 := workedBank .building }) State.reset
    Running s ∧ (bankOf s.tbs .snap0).state = .building := by decide

theorem witness_ActivateMarksOrTakesEffect :
    let two := tables (fun t => { t with bank0 := workedBank .active, bank1 := workedBank .ready })
    let fated := tables (fun t =>
      { t with bank0 := { workedBank .ready with fate := some .empty }, pin := some .snap0 }) State.reset
    let verifying := tables (fun t => { t with verify := some ⟨.snap0, 0, 0xFFFF, 5⟩ })
    Running (two State.reset) ∧ (bankOf (two State.reset).tbs .snap0).state = .active ∧ activeBank resetTbs = none ∧
    (bankOf (two locked).tbs .snap1).state = .ready ∧ (bankOf (two locked).tbs .snap1).fate = none ∧
    (two locked).vpl.lock = .locked ∧ activeBank (two locked).tbs ≠ none ∧ (two State.reset).vpl.lock ≠ .locked ∧
    activeBank (two State.reset).tbs ≠ none ∧ TablesOk (two State.reset) ∧ TablesOk (verifying (two State.reset)) ∧
    (bankOf fated.tbs .snap0).state = .ready ∧ (bankOf fated.tbs .snap0).fate ≠ none ∧
    (bankOf resetTbs .snap0).state ≠ .ready ∧ (bankOf resetTbs .snap0).state ≠ .active ∧ 3 ≤ (3 : Byte).toNat := by
  and_intros <;> decide +kernel

theorem witness_VerifyChecksTheActiveBank :
    let empty (crc : Word16) := tables (fun t =>
      { t with bank0 := { emptyBank with state := .active, acceptedCrc := some crc },
               verify := some ⟨.snap0, 0, 0xFFFF, 5⟩ }) State.reset
    let due (n : Int) (count : Nat) (s : State) : Prop := verifyInterval (atInterval n count s).pds.settings ≠ 0 ∧
      verifyInterval (atInterval n count s).pds.settings ≤ (atInterval n count s).tbs.interval + 1
    Running State.reset ∧ activeBank (atInterval 1 0 State.reset).tbs = some .snap0 ∧
    (atInterval 1 0 State.reset).tbs.verify = none ∧ activeBank (empty 0xFFFF).tbs = some .snap0 ∧
    (Running (atInterval 2 1 locked) ∧ (atInterval 2 1 locked).vpl.lock = .locked ∧ due 1 0 locked ∧ due 2 1 locked ∧
      due 3600 3599 locked) ∧
    ((atInterval 2 1 State.reset).vpl.lock ≠ .locked ∧ verifyInterval (atInterval 0 7 locked).pds.settings = 0 ∧
      (atInterval 3600 3598 locked).tbs.interval + 1 < verifyInterval (atInterval 3600 3598 locked).pds.settings) ∧
    (empty 0xFFFF).tbs.verify = some ⟨.snap0, 0, 0xFFFF, 5⟩ ∧ activeBank State.reset.tbs = none ∧
    some (verifyCrc (empty 0xFFFF).tbs ⟨.snap0, 0, 0xFFFF, 5⟩ 0) = (bankOf (empty 0xFFFF).tbs .snap0).acceptedCrc ∧
    some (verifyCrc (empty 0).tbs ⟨.snap0, 0, 0xFFFF, 5⟩ 0) ≠ (bankOf (empty 0).tbs .snap0).acceptedCrc ∧
    (empty 0).tbs.pin ≠ some .snap0 ∧
    (tables (fun t => { t with pin := some .snap0 }) (empty 0)).tbs.pin = some .snap0 ∧
    (tables (fun t => { t with mark := some ⟨some .snap1, 3⟩ }) (empty 0)).tbs.mark.map Mark.target ≠
      some (some .snap0) ∧
    ([] : List Byte).length = 10 * 0 ∧ (bankOf (empty 0xFFFF).tbs .snap0).entries = (pieces 10 0 []).map entryOfBytes ∧
    (bankOf (empty 0xFFFF).tbs .snap0).acceptedCrc = some (crcBytes 0xFFFF []) := by decide

/-- R87 on one loaded entry, A of the worked case, its bytes those of section 10.4. -/
theorem witness_VerifyChecksTheActiveBank_loaded :
    let data : List Byte := [0x02, 0x4A, 0xB8, 0x01, 0x55, 0x68, 0x00, 0x02, 0x01, 0x36]
    data.length = 10 * 1 ∧ (pieces 10 1 data).map entryOfBytes = [entryA] ∧ bytesOfEntry entryA = data := by decide

/-- Shallow, steep, and both ends equal: the three cases of R151. -/
theorem witness_SegmentsAreLitFromEitherEnd :
    ((7 : Int) - 4).natAbs ≤ ((2 : Int) - 10).natAbs ∧ (2 : Int) ≠ 10 ∧ ((4 : Int) - 7).natAbs < ((10 : Int) - 2).natAbs := by
  decide

theorem witness_StoredEntriesGiveBackTheirBytes : (List.replicate 10 (1 : Byte)).length = 10 * 1 := by decide

theorem witness_SearchesStartAndPublish :
    let n := workedSnapshot [] 0
    let turned : Snapshot := { n with
      constraint := 2, directions := [⟨16384, 0⟩], gestureState := .tracking, gestureKind := .line,
      anchor := some (pt 100000 80000) }
    let gridded : Snapshot := { n with gridEnable := 1, gridPitchX := 1, gridPitchY := 1 }
    State.reset.sse.flight = none ∧ Running (searching [] 10) ∧
    (searching [] 10).sse.flight = some ⟨workedSnapshot [] 10, ⟨0, 0, 0, none⟩⟩ ∧
    (n.sample.proximity = true ∧ pointValid n.sample.point = true ∧ n.aperture ≤ 0) ∧
    (turned.gestureState = .tracking ∧ turned.gestureKind ∈ [.line, .chain, .move] ∧ turned.constraint = 2 ∧
      turned.directions ≠ [] ∧ pointValid (pt 100000 80000) = true ∧ ¬pointer.x.value - 100000 = 0) ∧
    (n.gestureState ≠ .tracking ∧ n.gridEnable = 0) ∧
    (gridded.gestureState ≠ .tracking ∧ gridded.gridEnable ≠ 0 ∧ 1 ≤ gridded.gridPitchX ∧ 1 ≤ gridded.gridPitchY) ∧
    (searchResult resetTbs ⟨turned, ⟨0, 0, 0, none⟩⟩).source ≠ .object ∧
    (searchResult resetTbs ⟨gridded, ⟨0, 0, 0, none⟩⟩).source ≠ .object := by decide +kernel

theorem witness_ObjectResultsNameACandidate :
    ∃ t, Running (searching [] 10) ∧ (searching [] 10).sse.flight = some ⟨workedSnapshot [] 10, ⟨0, 0, 0, none⟩⟩ ∧
      exec .searchPublish (searching [] 10) = .next t ∧ t.sse.published.source = .object :=
  ⟨_, by decide, by decide, rfl, by decide +kernel⟩

/-- The worked search over the bank that its own build leaves. -/
def searchingBuilt : State :=
  tables (fun t => { t with bank0 := { builtBank (workedBank .building) with state := .active } }) (searching [] 10)

theorem witness_UntruncatedSearchFindsTheBest :
    ∃ t, Running searchingBuilt ∧ searchingBuilt.sse.flight = some ⟨workedSnapshot [] 10, ⟨0, 0, 0, none⟩⟩ ∧
      (let n := workedSnapshot [] 10
      n.sample.proximity = true ∧ pointValid n.sample.point = true ∧ n.bank = some .snap0 ∧
      1 ≤ n.aperture ∧ n.aperture ≤ 63 ∧ 1 ≤ n.view.zoom ∧ n.view.zoom ≤ 1048576 ∧ (workedSnapshot [] 63).aperture ≤ 63 ∧
      (entryC.attr.toNat / 8192 ≤ 6 ∧ n.kindEnable.toNat.testBit (entryC.attr.toNat / 8192) = true ∧
        n.layerMask.toNat.testBit (entryC.attr.toNat % 64) = true ∧ entryC.handle ∉ n.exclusions ∧
        entryC.x.toInt ≠ -8388608 ∧ entryC.y.toInt ≠ -8388608) ∧
      (((entryC.x.toInt - n.view.originX) * n.view.zoom + 32768) / 65536 -
          ((n.sample.point.x.value - n.view.originX) * n.view.zoom + 32768) / 65536) ^ 2 +
        (((n.view.originY - entryC.y.toInt) * n.view.zoom + 32768) / 65536 -
          ((n.view.originY - n.sample.point.y.value) * n.view.zoom + 32768) / 65536) ^ 2 ≤ n.aperture ^ 2) ∧
      bankOf searchingBuilt.tbs .snap0 = { builtBank (workedBank .building) with
        state := (bankOf searchingBuilt.tbs .snap0).state, fate := (bankOf searchingBuilt.tbs .snap0).fate } ∧
      (workedBank .building).entries[2]? = some entryC ∧
      exec .searchPublish searchingBuilt = .next t ∧ t.sse.published.truncated = false :=
  ⟨_, by decide, rfl, by decide, rfl, rfl, rfl, by decide +kernel⟩

theorem witness_TruncatedMeansTheBudgetRanOut :
    ∃ t, Running (searching [] 10) ∧ (searching [] 10).sse.flight = some ⟨workedSnapshot [] 10, ⟨0, 0, 0, none⟩⟩ ∧
      1 ≤ (workedSnapshot [] 10).budget ∧ exec .searchPublish (searching [] 10) = .next t ∧
      (workedSnapshot [] 10).sample.proximity = true ∧ pointValid (workedSnapshot [] 10).sample.point = true ∧
      0 < (workedSnapshot [] 10).aperture ∧ ¬0 < (workedSnapshot [] 0).aperture :=
  ⟨_, by decide, by decide, by decide, rfl, by decide, by decide, by decide, by decide⟩

theorem witness_CoverHoldsTheAperture :
    (0 : Int) ≤ 63 ∧ (1 : Int) ≤ workedView.zoom ∧ workedView.zoom ≤ 1048576 ∧
    project workedView pointer = some (1563, 1016) ∧ project workedView (pt 150000 87800) = some (1563, 1006) ∧
    dist2 (1563, 1016) (1563, 1006) ≤ 10 * 10 := by decide

theorem witness_GestureBegins :
    Running State.reset ∧ (List.replicate 116 (0 : Word16)).length ≤ 116 ∧ gestureKindOf 5 = some .move ∧
    (List.replicate 8 (0 : Word16)).length ≤ 8 ∧ 8 < (List.replicate 9 (0 : Word16)).length ∧
    State.reset.gcu.live.state = .idle ∧ (0 : Byte).getLsbD 1 = false ∧ (2 : Byte).getLsbD 1 = true ∧
    pointValid ⟨storedCoord ((0 : Byte) ++ (0 : Byte) ++ (1 : Byte)), storedCoord ((0 : Byte) ++ (0 : Byte) ++ (1 : Byte))⟩
      = true ∧
    pointValid ⟨storedCoord ((0x80 : Byte) ++ (0 : Byte) ++ (0 : Byte)), storedCoord ((0 : Byte) ++ (0 : Byte) ++ (1 : Byte))⟩
      = false ∧
    gestureKindOf 6 = none ∧ (gesturing .line .armed []).gcu.live.state ≠ .idle := by decide +kernel

theorem witness_CommitPlacesTheShownPoint :
    let armed := showing pointer (gesturing .point .armed [])
    let line := showing pointer (gesturing .line .armed [])
    let chain (n : Nat) := showing pointer (gesturing .chain .tracking (List.replicate n (pt 1 2)))
    let queued : List Report := ⟨0, .track armed.sse.published⟩ :: List.replicate 15 ⟨0, .syncDone⟩
    let track : State := { armed with rlt := { armed.rlt with queue := queued } }
    Running armed ∧ ContextOk armed.gcu.live ∧ armed.gcu.live.state ≠ .idle ∧
    pointValid armed.sse.published.point = true ∧ armed.sse.published.proximity = true ∧
    ¬(armed.gcu.live.state = .tracking) ∧ (waiting 15 armed).rlt.queue.length < 16 ∧
    ContextOk line.gcu.live ∧ line.gcu.live.state = .armed ∧ line.gcu.live.kind ≠ .point ∧
    (chain 14).gcu.live.vertices.length < 15 ∧ ¬(chain 15).gcu.live.vertices.length < 15 ∧
    ¬samePlace pointer (pt 1 2) ∧ samePlace pointer pointer ∧ 16 ≤ track.rlt.queue.length ∧ track.rlt.queue.any isTrack = true ∧
    16 ≤ (waiting 16 armed).rlt.queue.length ∧ (waiting 16 armed).rlt.queue.any isTrack = false := by
  and_intros <;> decide +kernel

theorem witness_EndAndCancelEndTheGesture :
    let s := gesturing .chain .tracking [pt 1 2, pt 3 4]
    Running s ∧ State.reset.gcu.live.state = .idle ∧ s.gcu.live.state ≠ .idle ∧ s.gcu.live.kind = .chain ∧
    s.gcu.live.state = .tracking ∧ 2 ≤ s.gcu.live.vertices.length ∧
    ¬2 ≤ (gesturing .chain .tracking [pt 1 2]).gcu.live.vertices.length := by decide

theorem witness_PressesAreHandedOverInOrder :
    let s := showing pointer (gesturing .line .tracking [pointer])
    State.reset.gcu.live.state = .idle ∧ s.gcu.live.state ≠ .idle ∧ pointValid s.sse.published.point = true ∧
    s.sse.published.proximity = true ∧ s.gcu.live.vertices.getLast? = some pointer ∧
    samePlace s.sse.published.point pointer ∧ ¬samePlace s.sse.published.point (pt 150000 87501) ∧
    pointValid (gesturing .line .armed []).sse.published.point = false ∧
    16 ≤ (waiting 16 s).rlt.queue.length ∧ (waiting 16 s).rlt.queue.any isTrack = false := by decide

theorem witness_ContextOperationsMoveContexts :
    let s := gesturing .line .tracking [pt 1 2]
    let parked : State := { State.reset with gcu := { resetGcu with slot3 := some s.gcu.live } }
    Running s ∧ s.gcu.live.state ≠ .idle ∧ slotOf s.gcu 3 = none ∧ State.reset.gcu.live.state = .idle ∧
    slotOf parked.gcu 3 = some s.gcu.live ∧ parked.gcu.live.state = .idle := by decide

theorem witness_EpochCountsTheChanges :
    WellFormed (.cancel 3 []) = true ∧ isPowerOrPin (.cancel 3 []) = false ∧
    (∀ vd vhs vvs, Instr.cancel 3 [] ≠ .controlByteCycle vd vhs vvs) ∧
    (∀ vd vhs, Instr.frameStart 0 true true true ≠ .frameStart vd vhs false true) ∧
    after (.cancel 3 []) (gesturing .line .armed []) (fun t => t.gcu.live.epoch) = some 8 :=
  ⟨by decide, by decide, fun _ _ _ h => (nomatch h), fun _ _ h => (nomatch h), by decide⟩

theorem witness_CirclesPassThroughTheFreePoint :
    0 < 1 ∧ ((0, 0) : Int × Int) ≠ (0, 1) ∧ 1 ≤ (1 : Nat) ∧
    ∃ g row, resetOvc.latch.glyphs[0]? = some g ∧ g.rows[31]? = some row :=
  ⟨by decide, by decide, by decide, _, _, rfl, rfl⟩

theorem witness_AnswersFollowClassAndListOrder :
    let o : Ovc := { resetOvc with display := [⟨.cursor, .segment 15 0 15 0⟩] }
    let shown : ResultRecord := ⟨41, pointer, pointer, .grid, none, false, true⟩
    let l : FrameLatch := { resetOvc.latch with
      shown := shown, gestureState := .tracking, gestureKind := .move, vertices := [pt 1 2] }
    (∃ q ∈ (o.display.filter fun p => onLine o.latch p 0).take 48, litCode o.latch q 15 0 ≠ 0) ∧
    (latchStyle l .cursor).op ≠ 2 ∧ (latchStyle l .cursor).blink = 0 ∧ l.shown.proximity = true ∧
    pointValid l.shown.point = true ∧ l.shown.source = .grid ∧ l.markers[7]? = some 16 ∧
    l.gestureState = .tracking ∧ (∀ v ∈ l.vertices, pointValid v = true) ∧ l.vertices.head? = some (pt 1 2) ∧
    l.vertices.getLast? = some (pt 1 2) ∧ resetOvc.latch.shown.proximity = false := by
  decide +kernel

theorem witness_ReportsAreSentWithFlagsAndCheck :
    let sent (n : Nat) : Rlt := { resetRlt resetStraps with transmission := some ⟨⟨13, .syncDone⟩, 1, 0x69, n⟩ }
    Running (waiting 1 State.reset) ∧ (waiting 1 State.reset).rlt.transmission = none ∧
    (waiting 1 State.reset).rlt.queue = ⟨0, .syncDone⟩ :: [] ∧ State.reset.rlt.queue = [] ∧
    ((sent 0).transmission.map fun m => (laneBits m)[m.position]?) = some (some false) ∧
    ((sent 59).transmission.map fun m => (laneBits m)[m.position]?) = some (some true) := by decide

theorem witness_StepsKeepTheQueueAndPathBounds :
    ∃ t, step { (waiting 16 locked) with pending := [.echo 1 []] } = .next t ∧ ReportQueueOk (waiting 16 locked) ∧
      PathOk (waiting 16 locked) := ⟨_, rfl, by decide, by decide⟩

theorem witness_StepsKeepTheTables :
    ∃ t, step { (searching [] 10) with pending := [.resetTables 1] } = .next t ∧
      TablesOk { (searching [] 10) with pending := [.resetTables 1] } := ⟨_, rfl, by decide +kernel⟩

theorem witness_StepsKeepTheGestures :
    ∃ t, step { (gesturing .chain .tracking [pt 1 2]) with pending := [.park 1 0] } = .next t ∧
      GesturesOk { (gesturing .chain .tracking [pt 1 2]) with pending := [.park 1 0] } :=
  ⟨_, rfl, by decide, fun i g h => by
    match i with
    | 0 => cases h
    | 1 => cases h
    | 2 => cases h
    | 3 => cases h⟩

theorem witness_StepsKeepTheCoordinates :
    ∃ t, step { locked with pending := [workedFrame] } = .next t ∧ CoordinatesOk { locked with pending := [workedFrame] } :=
  ⟨_, rfl, by decide, by decide, by decide, by decide, by decide, fun i g h => by
    match i with
    | 0 => cases h
    | 1 => cases h
    | 2 => cases h
    | 3 => cases h⟩

theorem witness_StepsKeepTheSettings :
    ∃ t, step { locked with pending := [.set 1 [5, 0, 0, 0, 0, 2]] } = .next t ∧
      SettingsOk { locked with pending := [.set 1 [5, 0, 0, 0, 0, 2]] } := ⟨_, rfl, by decide⟩

end Sys2Proof.Tests
end

