-- ==== Sys2Proof/Proofs/InBandPackets.lean ====
section
/-! Packets that are answered with one report: READ of IDENTITY (R25) and ECHO (R28). Each is first shown to be one offer
to the report queue; what the queue then does with it is the offer law (R166). -/

namespace Sys2Proof.Machine

/-! ## Packets of an allowed length (R17, R176) -/

/-- With the pin not asserted, a good packet of an allowed length acts as its owner says. -/
theorem whileRunning_takeClass {s : State} (hrun : Running s) {c : PacketClass} {payload : List Byte}
    (hlen : lengthOk c payload = true) (tag : Byte) :
    whileRunning (takeClass c tag payload) s = .next (takeOwned c tag payload s) := by
  rw [whileRunning_running hrun, takeClass, if_pos hlen]

/-- An ECHO may carry any payload a packet can hold. -/
theorem lengthOk_echo_iff (payload : List Byte) : lengthOk .echo payload = true ↔ payload.length ≤ 240 := by
  simp only [lengthOk, Config.payloadMax, Bool.and_true]
  exact decide_eq_true_iff

/-- A READ names one group. -/
theorem lengthOk_read_singleton (group : Byte) : lengthOk .read [group] = true := rfl

/-! ## READ of IDENTITY (R25) -/

/-- The SETTING report that answers a READ of IDENTITY: vendor code, part code and revision, no field pending. -/
def identityBody : ReportBody := .setting 12 [⟨0x0D1A, false, false⟩, ⟨0x7230, false, false⟩, ⟨1, false, false⟩]

theorem readIdentity_eq_offer (tag : Byte) (s : State) : readIdentity tag s = offer tag identityBody s := rfl

/-- Code 12 names no writable group, so a READ of it is one of IDENTITY. -/
theorem readGroup_identityCode (tag : Byte) (s : State) : readGroup tag identityCode s = readIdentity tag s := by
  have hgroup : groupOf identityCode = none := rfl
  simp only [readGroup, hgroup, if_pos]

theorem exec_readIdentity_eq_offer {s : State} (hrun : Running s) (tag : Byte) :
    exec (.readIdentity tag) s = .next (offer tag identityBody s) :=
  calc exec (.readIdentity tag) s
    _ = whileRunning (takeClass .read tag [identityCode]) s := rfl
    _ = .next (readGroup tag identityCode s) := whileRunning_takeClass hrun (lengthOk_read_singleton identityCode) tag
    _ = .next (offer tag identityBody s) := by rw [readGroup_identityCode, readIdentity_eq_offer]

/-- Settles O20: the READ is one offer, and the queue has a place for it. -/
theorem readIdentityReportsFixedValues : Obligations.ReadIdentityReportsFixedValues := by
  intro tag s hrun hroom
  have hplace : s.rlt.queue.length < 16 := hroom
  rw [exec_readIdentity_eq_offer hrun, offer_room hplace]
  rfl

/-! ## ECHO (R28) -/

theorem exec_echo_eq_offer {s : State} (hrun : Running s) {payload : List Byte} (hlen : payload.length ≤ 240)
    (tag : Byte) : exec (.echo tag payload) s = .next (offer tag (.echo (payload.map fun b => ~~~b)) s) :=
  whileRunning_takeClass hrun ((lengthOk_echo_iff payload).mpr hlen) tag

/-- Settles O23: the ECHO is one offer of the complemented payload, queued with a place free and dropped with none. -/
theorem echoReturnsTheComplement : Obligations.EchoReturnsTheComplement := by
  intro tag payload s hrun hlen
  rw [exec_echo_eq_offer hrun hlen]
  constructor
  · intro hplace
    rw [offer_room hplace]
  · intro hfull
    rw [offer_full hfull]

end Sys2Proof.Machine
end

/-! The build of a bank's directory (R76). A build sees of its entries only the list of their cells (R42, none for a
void entry), so its laws are proved over such a list: the runs of the cells lie one after the other in the cell index
list, and a directory cell says where its run begins and how long it is. The laws of a bank then follow from what its
entries' cells are. -/

namespace Sys2Proof.Machine

/-! ## Void entries and their points (R67, R32) -/

/-- The kind code is the top three bits of its word (R67). -/
theorem entryKindCode_eq_div (e : SnapEntry) : entryKindCode e = e.attr.toNat / 8192 := by
  have hword : e.attr.toNat < 65536 := e.attr.isLt
  rw [entryKindCode, BitVec.extractLsb'_toNat, Nat.shiftRight_eq_div_pow]
  omega

theorem storedCoord_cls_valid_iff (v : BitVec 24) : (storedCoord v).cls = .valid ↔ v.toInt ≠ -8388608 := by
  by_cases hindef : v.toInt = -8388608 <;> simp [storedCoord, Config.indefiniteCode, hindef]

/-- A stored coordinate keeps its value whatever its class. -/
theorem storedCoord_value (v : BitVec 24) : (storedCoord v).value = v.toInt := by
  unfold storedCoord
  split
  next h => exact h.symm
  next => rfl

theorem worseClass_eq_valid_iff (a b : CoordClass) : worseClass a b = .valid ↔ a = .valid ∧ b = .valid := by
  cases a <;> cases b <;> decide

theorem pointValid_entryPoint_iff (e : SnapEntry) :
    pointValid (entryPoint e) = true ↔ e.x.toInt ≠ -8388608 ∧ e.y.toInt ≠ -8388608 := by
  rw [pointValid, beq_iff_eq, pointClass, worseClass_eq_valid_iff, entryPoint, storedPoint,
    storedCoord_cls_valid_iff, storedCoord_cls_valid_iff]

theorem entryVoid_iff (e : SnapEntry) :
    entryVoid e = true ↔ e.attr.toNat / 8192 = 7 ∨ e.x.toInt = -8388608 ∨ e.y.toInt = -8388608 := by
  have hpoint := pointValid_entryPoint_iff e
  rw [entryVoid, Bool.or_eq_true, beq_iff_eq, entryKindCode_eq_div, Bool.not_eq_true', ← Bool.not_eq_true, hpoint]
  tauto

/-! ## The cell of an entry (R42) -/

theorem cellOnAxis_lt (shift : Nat) (origin v : Int) : cellOnAxis shift origin v < 64 := by
  have hle : clampInt 0 63 ((v - origin) / (2 ^ shift : Nat)) ≤ 63 := clampInt_le (by decide)
  unfold cellOnAxis
  omega

theorem cellNumber_lt (shift : Nat) (ox oy x y : Int) : cellNumber shift ox oy x y < 4096 := by
  have hx := cellOnAxis_lt shift ox x
  have hy := cellOnAxis_lt shift oy y
  unfold cellNumber Config.cellsPerAxis
  omega

theorem entryCell_lt {b : Bank} {e : SnapEntry} {c : Nat} (h : entryCell b e = some c) : c < 4096 := by
  unfold entryCell at h
  split at h
  next => cases h
  next => exact Option.some.inj h ▸ cellNumber_lt ..

theorem entryCell_isNone (b : Bank) (e : SnapEntry) : (entryCell b e).isNone = entryVoid e := by
  unfold entryCell
  cases entryVoid e <;> rfl

/-- The non-void entries are those with a cell below 4,096. -/
theorem entryCell_any_lt (b : Bank) (e : SnapEntry) :
    ((entryCell b e).any fun d => decide (d < 4096)) = !entryVoid e := by
  rw [← entryCell_isNone b]
  cases hcell : entryCell b e with
  | none => rfl
  | some c => simpa using entryCell_lt hcell

/-! ## Runs of a list of cells

`filedIn cells c` is the run of cell `c`. -/

/-- The cell index list with its number of cells as a numeral. -/
theorem buildIndex_eq (cells : List (Option Nat)) : buildIndex cells = (List.range 4096).flatMap (filedIn cells) := by
  have htotal : Config.cellsPerAxis * Config.cellsPerAxis = 4096 := by decide
  rw [buildIndex, htotal]

theorem mem_filedIn {cells : List (Option Nat)} {c i : Nat} (h : i ∈ filedIn cells c) : cells.getD i none = some c :=
  beq_iff_eq.mp (List.mem_filter.mp h).2

theorem filedIn_nodup (cells : List (Option Nat)) (c : Nat) : (filedIn cells c).Nodup := List.nodup_range.filter _

/-- A position has one cell, so it is in one run. -/
theorem filedIn_disjoint (cells : List (Option Nat)) {c d : Nat} (hne : c ≠ d) :
    (filedIn cells c).Disjoint (filedIn cells d) := fun _ hc hd =>
  hne (Option.some.inj ((mem_filedIn hc).symm.trans (mem_filedIn hd)))

/-- A run has as many positions as the cell has entries. -/
theorem filedIn_length (cells : List (Option Nat)) (c : Nat) :
    (filedIn cells c).length = (buildCell cells c).count := by
  have hread : cells = (List.range cells.length).map fun i => cells.getD i none :=
    List.ext_getElem (by simp) fun i hi _ => by simp [hi]
  calc (filedIn cells c).length
    _ = (((List.range cells.length).map fun i => cells.getD i none).filter fun k => k == some c).length := by
        rw [List.filter_map, List.length_map]; rfl
    _ = (buildCell cells c).count := by rw [← hread]; rfl

theorem buildCell_zero_first (cells : List (Option Nat)) : (buildCell cells 0).first = 0 := by
  simp [buildCell]

/-- A cell's run ends where the next cell's begins. -/
theorem buildCell_succ_first (cells : List (Option Nat)) (c : Nat) :
    (buildCell cells (c + 1)).first = (buildCell cells c).first + (buildCell cells c).count := by
  simp only [buildCell, ← List.countP_eq_length_filter]
  induction cells with
  | nil => rfl
  | cons k cells ih =>
    cases k with
    | none => simpa using ih
    | some n =>
      simp only [List.countP_cons, ih, Option.any_some, decide_eq_true_eq, beq_iff_eq, Option.some.injEq]
      split <;> split <;> split <;> omega

/-- The runs before a cell fill the places up to its first. -/
theorem runsBefore_length (cells : List (Option Nat)) (c : Nat) :
    ((List.range c).flatMap (filedIn cells)).length = (buildCell cells c).first := by
  induction c with
  | zero => exact (buildCell_zero_first cells).symm
  | succ c ih =>
    rw [List.range_succ, List.flatMap_append, List.flatMap_singleton, List.length_append, ih, filedIn_length,
      buildCell_succ_first]

/-- The directory cell finds its run in the cell index list. -/
theorem buildIndex_run (cells : List (Option Nat)) {c : Nat} (hc : c < 4096) :
    ((buildIndex cells).drop (buildCell cells c).first).take (buildCell cells c).count = filedIn cells c := by
  obtain ⟨n, hn⟩ : ∃ n, 4096 = c + 1 + n := Nat.exists_eq_add_of_le hc
  have hsplit : buildIndex cells = (List.range c).flatMap (filedIn cells) ++ (filedIn cells c ++
      ((List.range n).map fun x => c + 1 + x).flatMap (filedIn cells)) := by
    rw [buildIndex_eq, hn, List.range_add, List.range_succ, List.flatMap_append,
      List.flatMap_append, List.flatMap_singleton, List.append_assoc]
  rw [hsplit, ← runsBefore_length, List.drop_left, ← filedIn_length, List.take_left]

theorem buildIndex_length (cells : List (Option Nat)) : (buildIndex cells).length = (buildCell cells 4096).first := by
  rw [buildIndex_eq, runsBefore_length]

theorem buildIndex_nodup (cells : List (Option Nat)) : (buildIndex cells).Nodup := by
  rw [buildIndex_eq]
  exact List.nodup_flatMap.mpr ⟨fun c _ => filedIn_nodup cells c, List.nodup_range.imp (filedIn_disjoint cells)⟩

/-! ## The directory of a list of cells -/

/-- The directory with its number of cells as a numeral. -/
theorem buildDirectory_eq (cells : List (Option Nat)) :
    buildDirectory cells = (List.range 4096).map (buildCell cells) := by
  have htotal : Config.cellsPerAxis * Config.cellsPerAxis = 4096 := by decide
  rw [buildDirectory, htotal]

theorem buildDirectory_length (cells : List (Option Nat)) : (buildDirectory cells).length = 4096 := by
  rw [buildDirectory_eq, List.length_map, List.length_range]

theorem buildDirectory_getElem? (cells : List (Option Nat)) {c : Nat} (hc : c < 4096) :
    (buildDirectory cells)[c]? = some (buildCell cells c) := by
  rw [buildDirectory_eq, List.getElem?_map, List.getElem?_range hc, Option.map_some]

/-- The fold of a build over its directory gives the greatest count. -/
theorem foldl_max_count_spec {dir : List DirCell} (hdir : dir ≠ []) :
    (∀ c ∈ dir, c.count ≤ dir.foldl (fun m c => max m c.count) 0) ∧
    ∃ c ∈ dir, c.count = dir.foldl (fun m c => max m c.count) 0 := by
  have hmax : (0 :: dir.map DirCell.count).max? = some (dir.foldl (fun m c => max m c.count) 0) := by
    rw [List.max?_cons', List.foldl_map]
  obtain ⟨hmem, hle⟩ := List.max?_eq_some_iff.mp hmax
  have hbound : ∀ c ∈ dir, c.count ≤ dir.foldl (fun m c => max m c.count) 0 := fun c hc =>
    hle _ (List.mem_cons_of_mem _ (List.mem_map_of_mem hc))
  refine ⟨hbound, ?_⟩
  rcases List.mem_cons.mp hmem with hzero | hcount
  · obtain ⟨c, hc⟩ := List.exists_mem_of_ne_nil dir hdir
    exact ⟨c, hc, by have := hbound c hc; omega⟩
  · exact List.mem_map.mp hcount

/-! ## The built bank (R76) -/

theorem builtBank_directory (b : Bank) : (builtBank b).directory = buildDirectory (entryCells b) := by
  rw [builtBank]

theorem builtBank_cellIndex (b : Bank) : (builtBank b).cellIndex = buildIndex (entryCells b) := by
  rw [builtBank]

theorem builtBank_largest (b : Bank) :
    (builtBank b).largest = (builtBank b).directory.foldl (fun m c => max m c.count) 0 := by
  rw [builtBank]

theorem buildCell_entryCells (b : Bank) (c : Nat) : buildCell (entryCells b) c =
    ⟨(b.entries.filter fun e => (entryCell b e).any fun d => decide (d < c)).length,
     (b.entries.filter fun e => decide (entryCell b e = some c)).length⟩ := by
  simp only [buildCell, entryCells, List.filter_map, List.length_map, Function.comp_def, beq_eq_decide]

theorem filedIn_entryCells (b : Bank) (c : Nat) : filedIn (entryCells b) c =
    (List.range b.entries.length).filter fun i => decide ((b.entries[i]?).bind (entryCell b) = some c) := by
  have hread (i : Nat) : (entryCells b).getD i none = (b.entries[i]?).bind (entryCell b) := by
    rw [List.getD_eq_getElem?_getD, entryCells, List.getElem?_map]
    cases b.entries[i]? <;> rfl
  have hlength : (entryCells b).length = b.entries.length := List.length_map _
  simp only [filedIn, hread, hlength, beq_eq_decide]

theorem builtBank_directory_length (b : Bank) : (builtBank b).directory.length = 4096 := by
  rw [builtBank_directory, buildDirectory_length]

theorem builtBank_cellIndex_nodup (b : Bank) : (builtBank b).cellIndex.Nodup := by
  rw [builtBank_cellIndex]
  exact buildIndex_nodup (entryCells b)

theorem builtBank_directory_getElem? (b : Bank) {c : Nat} (hc : c < 4096) :
    (builtBank b).directory[c]? = some (buildCell (entryCells b) c) := by
  rw [builtBank_directory, buildDirectory_getElem? _ hc]

theorem cellEntries_builtBank (b : Bank) {c : Nat} (hc : c < 4096) :
    cellEntries (builtBank b) c = filedIn (entryCells b) c := by
  have hcell : dirCell (builtBank b) c = buildCell (entryCells b) c := by
    rw [dirCell, List.getD_eq_getElem?_getD, builtBank_directory_getElem? b hc, Option.getD_some]
  rw [cellEntries, hcell, builtBank_cellIndex, buildIndex_run _ hc]

theorem builtBank_cellIndex_eq_runs (b : Bank) :
    (builtBank b).cellIndex = (List.range 4096).flatMap (cellEntries (builtBank b)) :=
  calc (builtBank b).cellIndex
    _ = (List.range 4096).flatMap (filedIn (entryCells b)) := by rw [builtBank_cellIndex, buildIndex_eq]
    _ = (List.range 4096).flatMap (cellEntries (builtBank b)) :=
        List.flatMap_congr fun _ hc => (cellEntries_builtBank b (List.mem_range.mp hc)).symm

theorem builtBank_cellIndex_length (b : Bank) :
    (builtBank b).cellIndex.length = (b.entries.filter fun e => !entryVoid e).length :=
  calc (builtBank b).cellIndex.length
    _ = (buildCell (entryCells b) 4096).first := by rw [builtBank_cellIndex, buildIndex_length]
    _ = (b.entries.filter fun e => !entryVoid e).length := by simp only [buildCell_entryCells, entryCell_any_lt]

theorem builtBank_voidCount (b : Bank) : (builtBank b).voidCount = (b.entries.filter entryVoid).length := by
  have hvoid : Option.isNone ∘ entryCell b = entryVoid := funext (entryCell_isNone b)
  calc (builtBank b).voidCount
    _ = ((b.entries.map (entryCell b)).filter Option.isNone).length := by rw [builtBank, entryCells]
    _ = (b.entries.filter entryVoid).length := by rw [List.filter_map, List.length_map, hvoid]

theorem builtBank_largest_spec (b : Bank) :
    (∀ c ∈ (builtBank b).directory, c.count ≤ (builtBank b).largest) ∧
    ∃ c ∈ (builtBank b).directory, c.count = (builtBank b).largest := by
  have hlength : 0 < (builtBank b).directory.length := by rw [builtBank_directory_length]; decide
  rw [builtBank_largest]
  exact foldl_max_count_spec (List.ne_nil_of_length_pos hlength)

/-- Settles O36: the void test and the cell are those of the entry; directory, runs and counts are those of the list of
the entries' cells. -/
theorem directoryFilesEveryEntry : Obligations.DirectoryFilesEveryEntry := by
  intro b
  obtain ⟨hbound, hattained⟩ := builtBank_largest_spec b
  refine ⟨entryVoid_iff, ?values, ?cell, builtBank_directory_length b, ?counts, ?runs,
    builtBank_cellIndex_eq_runs b, builtBank_cellIndex_length b, builtBank_cellIndex_nodup b,
    builtBank_voidCount b, hbound, hattained⟩
  case values => exact fun e _ => ⟨storedCoord_value e.x, storedCoord_value e.y⟩
  case cell => exact fun e => rfl
  case counts => exact fun c hc => by rw [builtBank_directory_getElem? b hc, buildCell_entryCells]
  case runs => exact fun c hc => by rw [cellEntries_builtBank b hc, filedIn_entryCells]

end Sys2Proof.Machine

/-! The gesture controller's END, CANCEL and CONTEXT (R129 to R136). Each event has its equation first: what it
writes to the live gesture and the slots, the one report it offers, and whether it asks for a search. -/

namespace Sys2Proof.Machine

/-! ## The live gesture and the slots (R118, R120, R132) -/

/-- A change of the live gesture behind a report: an offer leaves the epoch it advances as it was. -/
theorem changeLive_offer (g : Gesture) (tag : Byte) (body : ReportBody) (s : State) :
    changeLive g (offer tag body s) =
      { offer tag body s with gcu := { s.gcu with live := { g with epoch := s.gcu.live.epoch + 1 } } } := by
  rw [changeLive, offer_gcu]
  rfl

/-- A change of the live gesture behind a change of a slot. -/
theorem changeLive_withSlot (g : Gesture) (i : Fin 4) (c : Option Gesture) (s : State) :
    changeLive g (s.withGcu (setSlot s.gcu i c)) =
      { s with gcu := { setSlot s.gcu i c with live := { g with epoch := s.gcu.live.epoch + 1 } } } := by
  rw [changeLive, State.withGcu_gcu, setSlot_live]
  rfl

/-- A change of a slot alone leaves the live gesture as it is. -/
theorem withGcu_setSlot_eq (s : State) (i : Fin 4) (c : Option Gesture) :
    s.withGcu (setSlot s.gcu i c) = { s with gcu := { setSlot s.gcu i c with live := s.gcu.live } } := by
  fin_cases i <;> rfl

@[simp] theorem slotOf_withLive (g : Gcu) (live : Gesture) (i : Fin 4) :
    slotOf { g with live := live } i = slotOf g i := by
  fin_cases i <;> rfl

theorem setSlot_withLive (g : Gcu) (live : Gesture) (i : Fin 4) (c : Option Gesture) :
    setSlot { g with live := live } i c = { setSlot g i c with live := live } := by
  fin_cases i <;> rfl

@[simp] theorem setSlot_setSlot_same (g : Gcu) (i : Fin 4) (c d : Option Gesture) :
    setSlot (setSlot g i c) i d = setSlot g i d := by
  fin_cases i <;> rfl

/-- Writing to a slot what it holds changes nothing. -/
theorem setSlot_of_slotOf_eq {g : Gcu} {i : Fin 4} {c : Option Gesture} (h : slotOf g i = c) : setSlot g i c = g := by
  subst h
  fin_cases i <;> rfl

theorem slotOf_setSlot (g : Gcu) (i j : Fin 4) (c : Option Gesture) :
    slotOf (setSlot g i c) j = if j = i then c else slotOf g j := by
  by_cases hji : j = i
  · rw [if_pos hji, hji, slotOf_setSlot_same]
  · rw [if_neg hji, slotOf_setSlot_other hji]

/-! ## END and CANCEL (R129, R130) -/

/-- The shown result in the words of the statements (R122). -/
theorem shownResult_eq (s : State) :
    shownResult s =
      if s.vpl.lock = .locked ∧ s.ovc.latch.current = true then s.ovc.latch.shown else s.sse.published := by
  simp only [shownResult, isLocked, Bool.and_eq_true, beq_iff_eq]

/-- The event of R129 and R130: one report is offered, the live gesture becomes IDLE with its kind kept, its epoch one
further on, and one search is requested. -/
def liveEnded (tag : Byte) (body : ReportBody) (s : State) : State :=
  searchRequest { offer tag body s with
    gcu := { s.gcu with live := ⟨s.gcu.live.kind, .idle, [], false, [], s.gcu.live.epoch + 1⟩ } }

theorem searchRequest_changeLive_idleGesture (tag : Byte) (body : ReportBody) (s : State) :
    searchRequest (changeLive (idleGesture s.gcu.live) (offer tag body s)) = liveEnded tag body s := by
  rw [changeLive_offer]
  rfl

theorem cancelLive_eq (o : Origin) (tag : Byte) (s : State) :
    cancelLive o tag s = liveEnded (originTag o tag)
      (.cancelled o (s.gcu.live.epoch + 1) s.gcu.live.kind s.gcu.live.vertices.length .request) s :=
  searchRequest_changeLive_idleGesture ..

/-- The live gesture is a chain that END finishes with GESTURE_DONE (R129). -/
abbrev ChainFinishable (g : Gesture) : Prop := g.kind = .chain ∧ g.state = .tracking ∧ 2 ≤ g.vertices.length

theorem ChainFinishable.not_idle {g : Gesture} (h : ChainFinishable g) : g.state ≠ .idle := by
  obtain ⟨-, htracking, -⟩ := h
  rw [htracking]
  nofun

theorem endLive_of_finishable {s : State} (h : ChainFinishable s.gcu.live) (o : Origin) (tag : Byte) :
    endLive o tag s = liveEnded (originTag o tag)
      (.gestureDone o (s.gcu.live.epoch + 1) s.gcu.live.kind s.gcu.live.vertices.length .normal s.gcu.live.close) s :=
  (if_pos h).trans (searchRequest_changeLive_idleGesture ..)

/-- END of any other gesture is its CANCEL. -/
theorem endLive_of_not_finishable {s : State} (h : ¬ChainFinishable s.gcu.live) (o : Origin) (tag : Byte) :
    endLive o tag s = cancelLive o tag s := if_neg h

/-! The two packets and the two presses, by whether the live gesture is IDLE. -/

section
variable {s : State} (tag : Byte) (b : Fin 4)

theorem takeEnd_idle (h : s.gcu.live.state = .idle) :
    takeEnd tag s = offer tag (.error 0x22 .state none) s := if_pos h
theorem takeEnd_live (h : s.gcu.live.state ≠ .idle) : takeEnd tag s = endLive .packet tag s := if_neg h

theorem takeCancel_idle (h : s.gcu.live.state = .idle) :
    takeCancel tag s = offer tag (.error 0x23 .state none) s := if_pos h
theorem takeCancel_live (h : s.gcu.live.state ≠ .idle) : takeCancel tag s = cancelLive .packet tag s := if_neg h

theorem takePress_finish_idle (h : s.gcu.live.state = .idle) :
    takePress b .finish s = buttonReport b .finish s := if_pos h
theorem takePress_finish_live (h : s.gcu.live.state ≠ .idle) :
    takePress b .finish s = endLive (.button b) 0 s := if_neg h

theorem takePress_cancel_idle (h : s.gcu.live.state = .idle) :
    takePress b .cancel s = buttonReport b .cancel s := if_pos h
theorem takePress_cancel_live (h : s.gcu.live.state ≠ .idle) :
    takePress b .cancel s = cancelLive (.button b) 0 s := if_neg h

theorem exec_endGesture_eq_takeEnd (hrun : Running s) : exec (.endGesture tag []) s = .next (takeEnd tag s) :=
  whileRunning_takeClass (c := .endGesture) hrun rfl tag

theorem exec_cancel_eq_takeCancel (hrun : Running s) : exec (.cancel tag []) s = .next (takeCancel tag s) :=
  whileRunning_takeClass (c := .cancel) hrun rfl tag

end

/-- Settles O47, by whether the gesture is IDLE and whether it is a chain that END finishes. -/
theorem endAndCancelEndTheGesture : Obligations.EndAndCancelEndTheGesture := by
  intro tag b s hrun g r idled cancelled done finished
  rw [exec_endGesture_eq_takeEnd tag hrun, exec_cancel_eq_takeCancel tag hrun]
  refine ⟨fun hidle => ?idle, fun hlive => ?cancel, fun hfin => ?finish, fun hlive hfin => ?cut⟩
  case idle =>
    rw [takeEnd_idle tag hidle, takeCancel_idle tag hidle, takePress_finish_idle b hidle, takePress_cancel_idle b hidle,
      buttonReport, buttonReport, shownResult_eq]
    exact ⟨rfl, rfl, rfl, rfl⟩
  case cancel =>
    rw [takeCancel_live tag hlive, takePress_cancel_live b hlive, cancelLive_eq, cancelLive_eq]
    exact ⟨rfl, rfl⟩
  case finish =>
    have hlive : s.gcu.live.state ≠ .idle := ChainFinishable.not_idle hfin
    rw [takeEnd_live tag hlive, takePress_finish_live b hlive, endLive_of_finishable hfin, endLive_of_finishable hfin]
    exact ⟨rfl, rfl⟩
  case cut =>
    rw [takeEnd_live tag hlive, takePress_finish_live b hlive, endLive_of_not_finishable hfin,
      endLive_of_not_finishable hfin, cancelLive_eq, cancelLive_eq]
    exact ⟨rfl, rfl⟩

/-! ## Context slots (R133 to R136) -/

/-- A CONTEXT packet is refused (R133). -/
def contextRefused (tag : Byte) (s : State) : State := offer tag (.error 0x24 .state none) s

/-- The CONTEXT report of an operation that leaves its slot holding a context or not (R136). -/
def contextTold (tag : Byte) (op : ContextOp) (i : Fin 4) (held : Bool) (c : Gesture) (s : State) : State :=
  offer tag (.context op i held c.kind c.state c.vertices.length c.epoch s.gcu.live.epoch) s

theorem contextReport_eq_contextTold {s : State} {i : Fin 4} {d : Option Gesture} (h : slotOf s.gcu i = d) (tag : Byte)
    (op : ContextOp) (c : Gesture) : contextReport tag op i c s = contextTold tag op i d.isSome c s := by
  rw [contextReport, h, contextTold]

@[simp] theorem contextTold_gcu (tag : Byte) (op : ContextOp) (i : Fin 4) (held : Bool) (c : Gesture) (s : State) :
    (contextTold tag op i held c s).gcu = s.gcu := offer_gcu ..

@[simp] theorem contextTold_resetAsserted (tag : Byte) (op : ContextOp) (i : Fin 4) (held : Bool) (c : Gesture)
    (s : State) : (contextTold tag op i held c s).resetAsserted = s.resetAsserted := offer_resetAsserted ..

/-- The GCU after a PARK: the slot has the live gesture, which is IDLE (R134). -/
def parkedGcu (g : Gcu) (i : Fin 4) : Gcu :=
  { setSlot g i (some g.live) with live := ⟨g.live.kind, .idle, [], false, [], g.live.epoch + 1⟩ }

/-- The GCU after a RESUME of context `c`: the slot is empty, the live gesture is `c` under the next epoch (R135). -/
def resumedGcu (g : Gcu) (i : Fin 4) (c : Gesture) : Gcu :=
  { setSlot g i none with live := { c with epoch := g.live.epoch + 1 } }

@[simp] theorem slotOf_parkedGcu (g : Gcu) (i : Fin 4) : slotOf (parkedGcu g i) i = some g.live := by
  rw [parkedGcu, slotOf_withLive, slotOf_setSlot_same]

@[simp] theorem slotOf_resumedGcu (g : Gcu) (i : Fin 4) (c : Gesture) : slotOf (resumedGcu g i c) i = none := by
  rw [resumedGcu, slotOf_withLive, slotOf_setSlot_same]

/-- RESUME undoes PARK but for the epoch, which each of them advances. -/
theorem resumedGcu_parkedGcu {g : Gcu} {i : Fin 4} (hempty : slotOf g i = none) :
    resumedGcu (parkedGcu g i) i g.live = { g with live := { g.live with epoch := g.live.epoch + 2 } } := by
  have hslots : setSlot (parkedGcu g i) i none = { g with live := (parkedGcu g i).live } := by
    rw [parkedGcu, setSlot_withLive, setSlot_setSlot_same, setSlot_of_slotOf_eq hempty]
  have hepoch : (parkedGcu g i).live.epoch + 1 = g.live.epoch + 2 := BitVec.add_assoc ..
  rw [resumedGcu, hslots, hepoch]

/-! What each operation does, by the live gesture and the slot. -/

section
variable {s : State} {i : Fin 4} {c : Gesture} (tag : Byte)

/-- What PARK and COPY ask for (R133). -/
theorem not_idle_or_held (hlive : s.gcu.live.state ≠ .idle) (hempty : slotOf s.gcu i = none) :
    ¬(s.gcu.live.state = .idle ∨ (slotOf s.gcu i).isSome) := by
  simp [hlive, hempty]

theorem takePark_accepted (hlive : s.gcu.live.state ≠ .idle) (hempty : slotOf s.gcu i = none) :
    takePark tag i s =
      searchRequest (contextTold tag .park i true s.gcu.live (s.withGcu (parkedGcu s.gcu i))) := by
  have hmoved : changeLive (idleGesture s.gcu.live) (s.withGcu (setSlot s.gcu i (some s.gcu.live))) =
      s.withGcu (parkedGcu s.gcu i) := changeLive_withSlot ..
  rw [takePark, if_neg (not_idle_or_held hlive hempty), hmoved, contextReport_eq_contextTold (slotOf_parkedGcu s.gcu i)]
  rfl

theorem takeCopy_accepted (hlive : s.gcu.live.state ≠ .idle) (hempty : slotOf s.gcu i = none) :
    takeCopy tag i s =
      contextTold tag .copy i true s.gcu.live (s.withGcu (setSlot s.gcu i (some s.gcu.live))) := by
  rw [takeCopy, if_neg (not_idle_or_held hlive hempty), contextReport_eq_contextTold (slotOf_setSlot_same s.gcu i _)]
  rfl

/-- PARK and COPY need a gesture to keep and an empty slot to keep it in. -/
theorem takePark_takeCopy_refused (h : s.gcu.live.state = .idle ∨ slotOf s.gcu i ≠ none) :
    takePark tag i s = contextRefused tag s ∧ takeCopy tag i s = contextRefused tag s := by
  have htaken : s.gcu.live.state = .idle ∨ (slotOf s.gcu i).isSome := by rwa [Option.isSome_iff_ne_none]
  exact ⟨if_pos htaken, if_pos htaken⟩

theorem takeResume_accepted (hidle : s.gcu.live.state = .idle) (hslot : slotOf s.gcu i = some c) :
    takeResume tag i s =
      searchRequest (contextTold tag .resume i false c (s.withGcu (resumedGcu s.gcu i c))) := by
  have hmoved : changeLive c (s.withGcu (setSlot s.gcu i none)) = s.withGcu (resumedGcu s.gcu i c) :=
    changeLive_withSlot ..
  simp only [takeResume, hslot, hidle, ne_eq, not_true_eq_false, if_false]
  rw [hmoved, contextReport_eq_contextTold (slotOf_resumedGcu s.gcu i c)]
  rfl

theorem takeResume_refused_live (hlive : s.gcu.live.state ≠ .idle) (hslot : slotOf s.gcu i = some c) :
    takeResume tag i s = contextRefused tag s := by
  simp only [takeResume, hslot, if_pos hlive]
  rfl

theorem takeDiscard_accepted (hslot : slotOf s.gcu i = some c) :
    takeDiscard tag i s = contextTold tag .discard i false c (s.withGcu (setSlot s.gcu i none)) := by
  simp only [takeDiscard, hslot]
  rw [contextReport_eq_contextTold (slotOf_setSlot_same s.gcu i none)]
  rfl

/-- RESUME and DISCARD need a context in the slot. -/
theorem takeResume_takeDiscard_empty (hempty : slotOf s.gcu i = none) :
    takeResume tag i s = contextRefused tag s ∧ takeDiscard tag i s = contextRefused tag s := by
  simp only [takeResume, takeDiscard, hempty]
  exact ⟨rfl, rfl⟩

theorem exec_park_eq_takePark (hrun : Running s) : exec (.park tag i) s = .next (takePark tag i s) :=
  whileRunning_running hrun _

theorem exec_copy_eq_takeCopy (hrun : Running s) : exec (.copy tag i) s = .next (takeCopy tag i s) :=
  whileRunning_running hrun _

theorem exec_resume_eq_takeResume (hrun : Running s) : exec (.resume tag i) s = .next (takeResume tag i s) :=
  whileRunning_running hrun _

theorem exec_discard_eq_takeDiscard (hrun : Running s) : exec (.discard tag i) s = .next (takeDiscard tag i s) :=
  whileRunning_running hrun _

end

/-- A PARK and a RESUME from the same slot give back the gesture, the epoch two further on. -/
theorem exec_park_resume {s : State} {i : Fin 4} (hrun : Running s) (hlive : s.gcu.live.state ≠ .idle)
    (hempty : slotOf s.gcu i = none) (tag tag2 : Byte) :
    ∃ t u, exec (.park tag i) s = .next t ∧ exec (.resume tag2 i) t = .next u ∧
      u.gcu = { s.gcu with live := { s.gcu.live with epoch := s.gcu.live.epoch + 2 } } := by
  have hpark := takePark_accepted tag hlive hempty
  have hgcu : (takePark tag i s).gcu = parkedGcu s.gcu i := by simp [hpark]
  have hrun2 : (takePark tag i s).resetAsserted = false := by simpa [hpark] using hrun
  have hidle : (takePark tag i s).gcu.live.state = .idle := by rw [hgcu]; rfl
  have hslot : slotOf (takePark tag i s).gcu i = some s.gcu.live := by rw [hgcu, slotOf_parkedGcu]
  refine ⟨takePark tag i s, takeResume tag2 i (takePark tag i s), exec_park_eq_takePark tag hrun,
    exec_resume_eq_takeResume tag2 hrun2, ?_⟩
  rw [takeResume_accepted tag2 hidle hslot, searchRequest_gcu, contextTold_gcu, State.withGcu_gcu, hgcu,
    resumedGcu_parkedGcu hempty]

/-- Settles O49, by the live gesture and the slot each operation names. -/
theorem contextOperationsMoveContexts : Obligations.ContextOperationsMoveContexts := by
  intro tag i s hrun g refused told withLive
  rw [exec_park_eq_takePark tag hrun, exec_copy_eq_takeCopy tag hrun, exec_resume_eq_takeResume tag hrun,
    exec_discard_eq_takeDiscard tag hrun]
  refine ⟨fun hlive hempty => ?keep, fun htaken => ?noKeep, fun c hslot => ?held, fun hempty => ?empty,
    fun j => slotOf_setSlot s.gcu i j (some g), fun hlive hempty tag2 => ?roundTrip⟩
  case keep =>
    rw [takePark_accepted tag hlive hempty, takeCopy_accepted tag hlive hempty, withGcu_setSlot_eq]
    exact ⟨rfl, rfl⟩
  case noKeep =>
    obtain ⟨hpark, hcopy⟩ := takePark_takeCopy_refused tag htaken
    exact ⟨congrArg _ hpark, congrArg _ hcopy⟩
  case held =>
    refine ⟨fun hidle => ?resumed, fun hlive => ?refused, ?discarded⟩
    case resumed => rw [takeResume_accepted tag hidle hslot]; rfl
    case refused => rw [takeResume_refused_live tag hlive hslot]; rfl
    case discarded => rw [takeDiscard_accepted tag hslot, withGcu_setSlot_eq]; rfl
  case empty =>
    obtain ⟨hresume, hdiscard⟩ := takeResume_takeDiscard_empty tag hempty
    exact ⟨congrArg _ hresume, congrArg _ hdiscard⟩
  case roundTrip =>
    rw [← exec_park_eq_takePark tag hrun]
    exact exec_park_resume hrun hlive hempty tag tag2

end Sys2Proof.Machine

/-! The invariants of the part are proved over one relation: `Quiet s t` says that `t` keeps every invariant of `s` and
has the video path of `s`. It composes, so each operation of the model is walked once for all the invariants. A video
event changes the video path and is `Kept`. A lock loss leaves LOCKED before its apply point makes the pending settings
current; at the state between only `KeptLoosely` holds, which leaves out the law of the settings. -/

namespace Sys2Proof.Machine

/-! ## The relations -/

/-- Every invariant but that of the settings is kept. -/
structure KeptLoosely (s t : State) : Prop where
  queue : ReportQueueOk s → ReportQueueOk t
  path : PathOk s → PathOk t
  gestures : GesturesOk s → GesturesOk t
  tables : TablesOk s → TablesOk t
  coordinates : CoordinatesOk s → CoordinatesOk t

/-- Every invariant is kept. -/
structure Kept (s t : State) : Prop extends KeptLoosely s t where
  settings : SettingsOk s → SettingsOk t

/-- Every invariant is kept, and the video path is as it was. -/
structure Quiet (s t : State) : Prop extends Kept s t where
  vpl : t.vpl = s.vpl

theorem KeptLoosely.trans {s t u : State} (h : KeptLoosely s t) (k : KeptLoosely t u) : KeptLoosely s u :=
  ⟨k.queue ∘ h.queue, k.path ∘ h.path, k.gestures ∘ h.gestures, k.tables ∘ h.tables, k.coordinates ∘ h.coordinates⟩

theorem Kept.trans {s t u : State} (h : Kept s t) (k : Kept t u) : Kept s u :=
  ⟨h.toKeptLoosely.trans k.toKeptLoosely, k.settings ∘ h.settings⟩

theorem Quiet.trans {s t u : State} (h : Quiet s t) (k : Quiet t u) : Quiet s u :=
  ⟨h.toKept.trans k.toKept, k.vpl.trans h.vpl⟩

/-- `Quiet.trans` with the later operation first, which names the state between. -/
theorem Quiet.after {s t u : State} (k : Quiet t u) (h : Quiet s t) : Quiet s u := h.trans k

@[refl] theorem Quiet.refl (s : State) : Quiet s s := ⟨⟨⟨id, id, id, id, id⟩, id⟩, rfl⟩

/-- A run of quiet operations is quiet. -/
theorem Quiet.foldl {α : Type} {f : State → α → State} (h : ∀ s a, Quiet s (f s a)) (l : List α) (s : State) :
    Quiet s (l.foldl f s) := by
  induction l generalizing s with
  | nil => exact .refl s
  | cons a l ih => exact (h s a).trans (ih (f s a))

/-! ## Changes of one block -/

section
variable {s : State}

theorem quiet_withPds {p : Pds} (h : p.settings = s.pds.settings) : Quiet s (s.withPds p) where
  queue := id
  path := id
  gestures := id
  tables := id
  coordinates := id
  settings := by
    simp only [SettingsOk, State.withPds_pds, State.withPds_ovc, State.withPds_vpl, h]
    exact id
  vpl := rfl

theorem quiet_withRlt {r : Rlt} (h : ReportQueueOk s → ReportQueueOk (s.withRlt r)) : Quiet s (s.withRlt r) :=
  ⟨⟨⟨h, id, id, id, id⟩, id⟩, rfl⟩

theorem quiet_withPtu {p : Ptu} (h : PointOk s.ptu.mailbox.point → PointOk p.mailbox.point) : Quiet s (s.withPtu p) where
  queue := id
  path := id
  gestures := id
  tables := id
  coordinates := fun ⟨hmail, hrest⟩ => ⟨h hmail, hrest⟩
  settings := id
  vpl := rfl

theorem quiet_withTbs {x : Tbs} (h : TablesOk s → TablesOk (s.withTbs x)) : Quiet s (s.withTbs x) :=
  ⟨⟨⟨id, id, id, h, id⟩, id⟩, rfl⟩

theorem quiet_withGcu {g : Gcu} (h : GesturesOk s → GesturesOk (s.withGcu g))
    (hc : CoordinatesOk s → CoordinatesOk (s.withGcu g)) : Quiet s (s.withGcu g) :=
  ⟨⟨⟨id, id, h, id, hc⟩, id⟩, rfl⟩

theorem quiet_withOvc {o : Ovc} (hshown : o.latch.shown = s.ovc.latch.shown ∨ o.latch.shown = s.sse.published)
    (hphase : s.ovc.phase < blinkPeriod s.pds.settings → o.phase < blinkPeriod s.pds.settings) :
    Quiet s (s.withOvc o) where
  queue := id
  path := id
  gestures := id
  tables := id
  coordinates := by
    intro ⟨hmail, hpub, hlatch, hrest⟩
    refine ⟨hmail, hpub, ?_, hrest⟩
    show ResultOk o.latch.shown
    rcases hshown with h | h <;> rw [h] <;> assumption
  settings := fun ⟨hgroups, hwaits, hp⟩ => ⟨hgroups, hwaits, hphase hp⟩
  vpl := rfl

end

/-! ## The report queue (R166 to R168) -/

/-- A queue from which reports have only been taken keeps its bounds. -/
theorem quiet_queue_sublist {s : State} {r : Rlt} (h : r.queue.Sublist s.rlt.queue) : Quiet s (s.withRlt r) :=
  quiet_withRlt fun ⟨hlen, htrack⟩ => ⟨h.length_le.trans hlen, (h.filter isTrack).length_le.trans htrack⟩

theorem quiet_noteDrop (s : State) : Quiet s (noteDrop s) :=
  (quiet_queue_sublist (r := { s.rlt with overrun := true }) (List.Sublist.refl _)).trans (quiet_withPds rfl)

/-- An appended report keeps the bounds with a place free, and with no TRACK waiting when it is one. -/
theorem quiet_enqueue {s : State} {r : Report} (hroom : s.rlt.queue.length < 16)
    (htrack : isTrack r = true → s.rlt.queue.any isTrack = false) : Quiet s (enqueue r s) := by
  refine quiet_withRlt fun ⟨_, hone⟩ => ?_
  show (s.rlt.queue ++ [r]).length ≤ 16 ∧ ((s.rlt.queue ++ [r]).filter isTrack).length ≤ 1
  rw [List.length_append, List.filter_append, List.length_append, List.length_singleton]
  refine ⟨by omega, ?_⟩
  cases hr : isTrack r with
  | false => simpa [hr] using hone
  | true =>
    have hnone : s.rlt.queue.filter isTrack = [] := by simpa using htrack hr
    simp [hnone, hr]

theorem quiet_offer {tag : Byte} {b : ReportBody} (hb : isTrack ⟨tag, b⟩ = false) (s : State) :
    Quiet s (offer tag b s) := by
  rcases offer_cases tag b s with ⟨hroom, h⟩ | ⟨-, h⟩
  · rw [h]
    exact quiet_enqueue hroom fun htrack => by rw [hb] at htrack; cases htrack
  · rw [h]
    exact quiet_noteDrop s

theorem isTrack_track (tag : Byte) (r : ResultRecord) : isTrack ⟨tag, .track r⟩ = true := rfl

/-- Replacing TRACKs by TRACKs keeps each report's being one. -/
theorem filter_isTrack_map_length (r : ResultRecord) (l : List Report) :
    ((l.map fun q => if isTrack q then (⟨0, .track r⟩ : Report) else q).filter isTrack).length =
      (l.filter isTrack).length := by
  have hsame : isTrack ∘ (fun q => if isTrack q then (⟨0, .track r⟩ : Report) else q) = isTrack := by
    funext q
    cases hq : isTrack q <;> simp [hq, isTrack_track]
  rw [List.filter_map, List.length_map, hsame]

/-- The queue after a TRACK is offered (R167): it replaces one that waits, else it takes a free place, else it is gone. -/
def trackQueue (r : ResultRecord) (q : List Report) : List Report :=
  if q.any isTrack then q.map fun p => if isTrack p then ⟨0, .track r⟩ else p
  else if 16 ≤ q.length then q
  else q ++ [⟨0, .track r⟩]

/-- A TRACK changes the queue alone. -/
theorem offerTrack_eq (r : ResultRecord) (s : State) :
    offerTrack r s = s.withRlt { s.rlt with queue := trackQueue r s.rlt.queue } := by
  simp only [offerTrack, trackQueue, queueFull_eq, decide_eq_true_eq]
  by_cases hany : s.rlt.queue.any isTrack = true
  · simp only [hany, if_true]
  · by_cases hfull : 16 ≤ s.rlt.queue.length
    · simp only [hany, hfull, if_true]; rfl
    · simp only [hany, hfull, if_false]; rfl

theorem quiet_offerTrack (r : ResultRecord) (s : State) : Quiet s (offerTrack r s) := by
  rw [offerTrack_eq]
  by_cases hany : s.rlt.queue.any isTrack = true
  · rw [trackQueue, if_pos hany]
    exact quiet_withRlt fun ⟨hlen, hone⟩ =>
      ⟨(List.length_map _).trans_le hlen, (filter_isTrack_map_length r _).trans_le hone⟩
  · by_cases hfull : 16 ≤ s.rlt.queue.length
    · rw [trackQueue, if_neg hany, if_pos hfull]
      exact quiet_queue_sublist (List.Sublist.refl _)
    · rw [trackQueue, if_neg hany, if_neg hfull]
      exact quiet_enqueue (r := ⟨0, .track r⟩) (by omega) fun _ => by simpa using hany

theorem quiet_refuse (tag cls : Byte) (cause : Cause) (cursor : Option Nat) (s : State) :
    Quiet s (refuse tag cls cause cursor s) := quiet_offer rfl s

theorem quiet_refuseClass (tag : Byte) (c : PacketClass) (cause : Cause) (s : State) :
    Quiet s (refuseClass tag c cause s) := quiet_refuse ..

theorem quiet_tableReport (tag : Byte) (target : Option Target) (e : TableEvent) (s : State) :
    Quiet s (tableReport tag target e s) := quiet_offer rfl s

theorem quiet_completeFence (s : State) : Quiet s (completeFence s) :=
  (Quiet.foldl (fun s _ => quiet_offer rfl s) _ s).trans (quiet_withPds rfl)

/-! ## The receive state and the sticky flags -/

theorem quiet_setReceive (r : Receive) (s : State) : Quiet s (setReceive r s) := quiet_withPds rfl
theorem quiet_setLinkErr (s : State) : Quiet s (setLinkErr s) := quiet_withPds rfl
theorem quiet_setTabletErr (s : State) : Quiet s (setTabletErr s) := quiet_withPds rfl
theorem quiet_clearSticky (s : State) : Quiet s (clearSticky s) := quiet_withPds rfl

end Sys2Proof.Machine

/-! What the invariants of the table store (R81, R83, R84, R88) ask of a change of the banks, the mark, the pin and the
verify, and the operations of the table store and the search engine by it. -/

namespace Sys2Proof.Machine

/-! ## The law of the table store -/

/-- `TablesOk` over a table store whose pin is to be `p`. -/
structure TbsOk (t : Tbs) (p : Option BankId) : Prop where
  one : ∀ a b, (bankOf t a).state = .active → (bankOf t b).state = .active → a = b
  fate : ∀ b, FateOk t b
  pin : ∀ b, PinOk t b
  mark : ∀ b, MarkOk t b
  verify : ∀ b, VerifyOk t b
  pinned : t.pin = p

/-- The bank the search in flight reads (R83). -/
def flightBank (e : Sse) : Option BankId := e.flight.bind fun f => f.snapshot.bank

theorem forall_bankId {P : BankId → Prop} : (∀ b, P b) ↔ P .snap0 ∧ P .snap1 :=
  ⟨fun h => ⟨h _, h _⟩, fun ⟨h0, h1⟩ b => by cases b <;> assumption⟩

theorem tablesOk_iff (s : State) : TablesOk s ↔ TbsOk s.tbs (flightBank s.sse) := by
  constructor
  · rintro ⟨hone, hfate, hpin, hmark, hverify, hpinned⟩
    refine ⟨fun a b ha hb => ?_, forall_bankId.mpr hfate, forall_bankId.mpr hpin, forall_bankId.mpr hmark,
      forall_bankId.mpr hverify, hpinned⟩
    cases a <;> cases b
    · rfl
    · exact absurd ⟨ha, hb⟩ hone
    · exact absurd ⟨hb, ha⟩ hone
    · rfl
  · rintro ⟨hone, hfate, hpin, hmark, hverify, hpinned⟩
    exact ⟨fun ⟨h0, h1⟩ => (nomatch hone .snap0 .snap1 h0 h1), forall_bankId.mp hfate, forall_bankId.mp hpin,
      forall_bankId.mp hmark, forall_bankId.mp hverify, hpinned⟩

theorem quiet_withTbs_of_ok {s : State} {x : Tbs} (h : ∀ p, TbsOk s.tbs p → TbsOk x p) : Quiet s (s.withTbs x) :=
  quiet_withTbs fun hs => (tablesOk_iff _).mpr (h _ ((tablesOk_iff s).mp hs))

/-- With at most one bank ACTIVE, `activeBank` finds it. -/
theorem TbsOk.activeBank_eq_some_iff {t : Tbs} {p : Option BankId} (h : TbsOk t p) (b : BankId) :
    activeBank t = some b ↔ (bankOf t b).state = .active := by
  have hboth : ¬(t.bank0.state = .active ∧ t.bank1.state = .active) :=
    fun ⟨h0, h1⟩ => nomatch h.one .snap0 .snap1 h0 h1
  cases b <;> simp only [activeBank, bankOf] <;> split <;> simp_all

theorem activeBank_state {t : Tbs} {b : BankId} (h : activeBank t = some b) : (bankOf t b).state = .active := by
  unfold activeBank at h
  split at h
  next h0 => cases h; exact h0
  next =>
    split at h
    next h1 => cases h; exact h1
    next => cases h

section
variable {t : Tbs} {p : Option BankId} {b : BankId} {x : Bank}

/-- Changes of the other parts of the table store keep its law. -/
theorem TbsOk.of_eq {u : Tbs} (h : TbsOk t p) (hbank : ∀ b, bankOf u b = bankOf t b) (hmark : u.mark = t.mark)
    (hpin : u.pin = t.pin) (hverify : u.verify = t.verify) : TbsOk u p := by
  refine ⟨?_, fun b => ?_, fun b => ?_, fun b => ?_, fun b => ?_, hpin.trans h.pinned⟩
  · simpa only [hbank] using h.one
  · simpa only [FateOk, hbank, hpin] using h.fate b
  · simpa only [PinOk, hbank, hpin] using h.pin b
  · simpa only [MarkOk, hbank, hmark] using h.mark b
  · simpa only [VerifyOk, hbank, hverify] using h.verify b

/-- What a replaced bank, with the mark and the verify that then stand, must meet. -/
theorem TbsOk.replace {m : Option Mark} {v : Option VerifyJob} (h : TbsOk t p)
    (hactive : x.state = .active → (bankOf t b).state = .active)
    (hfate : x.fate ≠ none → x.state = .ready ∧ t.pin = some b)
    (hpin : t.pin = some b → x.state = .active ∨ x.state = .ready)
    (hmark : m.map Mark.target = some (some b) → x.state = .ready ∧ x.fate = none)
    (hmarks : ∀ c, c ≠ b → m.map Mark.target = some (some c) → t.mark.map Mark.target = some (some c))
    (hverify : v.map VerifyJob.bank = some b → x.state = .active)
    (hverifies : ∀ c, c ≠ b → v.map VerifyJob.bank = some c → t.verify.map VerifyJob.bank = some c) :
    TbsOk { setBank t b x with mark := m, verify := v } p := by
  have hsame : bankOf { setBank t b x with mark := m, verify := v } b = x := by cases b <;> rfl
  have hother : ∀ c, c ≠ b → bankOf { setBank t b x with mark := m, verify := v } c = bankOf t c := by
    intro c hc
    refine Eq.trans ?_ (bankOf_setBank_other hc t x)
    cases c <;> rfl
  have hwas : ∀ c, (bankOf { setBank t b x with mark := m, verify := v } c).state = .active →
      (bankOf t c).state = .active := by
    intro c hc
    by_cases hcb : c = b
    · subst hcb; rw [hsame] at hc; exact hactive hc
    · rwa [hother c hcb] at hc
  refine ⟨fun a c ha hc => h.one a c (hwas a ha) (hwas c hc), fun c => ?_, fun c => ?_, fun c => ?_, fun c => ?_,
    (setBank_pin t b x).trans h.pinned⟩
  · by_cases hcb : c = b
    · subst hcb; rw [FateOk, hsame, setBank_pin]; exact hfate
    · rw [FateOk, hother c hcb, setBank_pin]; exact h.fate c
  · by_cases hcb : c = b
    · subst hcb; rw [PinOk, hsame, setBank_pin]; exact hpin
    · rw [PinOk, hother c hcb, setBank_pin]; exact h.pin c
  · by_cases hcb : c = b
    · subst hcb; rw [MarkOk, hsame]; exact hmark
    · rw [MarkOk, hother c hcb]; exact fun hm => h.mark c (hmarks c hcb hm)
  · by_cases hcb : c = b
    · subst hcb; rw [VerifyOk, hsame]; exact hverify
    · rw [VerifyOk, hother c hcb]; exact fun hv => h.verify c (hverifies c hcb hv)

/-- A bank neither ACTIVE nor READY is named by no pin, mark, fate or verify, so it may be given any state but ACTIVE. -/
theorem TbsOk.setBank_unused (h : TbsOk t p) (hnotActive : (bankOf t b).state ≠ .active)
    (hnotReady : (bankOf t b).state ≠ .ready) (hx : x.state ≠ .active) (hfate : x.fate = none) :
    TbsOk (setBank t b x) p := by
  have heq : setBank t b x = { setBank t b x with mark := t.mark, verify := t.verify } := by cases b <;> rfl
  rw [heq]
  refine h.replace (fun ha => absurd ha hx) (fun hf => absurd hfate hf) (fun hp => ?_) (fun hm => ?_) (fun _ _ => id)
    (fun hv => absurd (h.verify b hv) hnotActive) (fun _ _ => id)
  · rcases h.pin b hp with ha | hr
    · exact absurd ha hnotActive
    · exact absurd hr hnotReady
  · exact absurd (h.mark b hm).1 hnotReady

/-- Such a bank holds no fate. -/
theorem TbsOk.fate_none (h : TbsOk t p) (hnotReady : (bankOf t b).state ≠ .ready) : (bankOf t b).fate = none := by
  by_contra hf
  exact hnotReady (h.fate b hf).1

/-- The contents of a bank may change with its state and its fate kept. -/
theorem TbsOk.setBank_contents (h : TbsOk t p) (hstate : x.state = (bankOf t b).state)
    (hfate : x.fate = (bankOf t b).fate) : TbsOk (setBank t b x) p := by
  have heq : setBank t b x = { setBank t b x with mark := t.mark, verify := t.verify } := by cases b <;> rfl
  rw [heq]
  refine h.replace (by rw [hstate]; exact id) ?_ ?_ ?_ (fun _ _ => id) ?_ (fun _ _ => id)
  · rw [hstate, hfate]; exact h.fate b
  · rw [hstate]; exact h.pin b
  · rw [hstate, hfate]; exact h.mark b
  · rw [hstate]; exact h.verify b

theorem unmark_target_ne (b : BankId) (m : Option Mark) : (unmark b m).map Mark.target ≠ some (some b) := by
  unfold unmark
  split
  next => nofun
  next h => exact h

theorem unmark_target {b c : BankId} {m : Option Mark} (h : (unmark b m).map Mark.target = some (some c)) :
    m.map Mark.target = some (some c) := by
  unfold unmark at h
  split at h
  next => cases h
  next => exact h

/-- A bank may be replaced by one out of use when it is not ACTIVE and no pin holds it, its mark removed (R70). -/
theorem TbsOk.setBank_unmarked (h : TbsOk t p) (hnotActive : (bankOf t b).state ≠ .active) (hpin : t.pin ≠ some b)
    (hx : x.state ≠ .active) (hfate : x.fate = none) : TbsOk { setBank t b x with mark := unmark b t.mark } p := by
  have heq : { setBank t b x with mark := unmark b t.mark } =
      { setBank t b x with mark := unmark b t.mark, verify := t.verify } := by cases b <;> rfl
  rw [heq]
  exact h.replace (fun ha => absurd ha hx) (fun hf => absurd hfate hf) (fun hp => absurd hp hpin)
    (fun hm => absurd hm (unmark_target_ne b _)) (fun _ _ => unmark_target)
    (fun hv => absurd (h.verify b hv) hnotActive) (fun _ _ => id)

end

/-! ## Loads and builds (R69 to R78) -/

/-- A change of the table store outside the banks, the mark, the pin and the verify. -/
theorem quiet_smallTables {s : State} {x : Tbs} (hbank : ∀ b, bankOf x b = bankOf s.tbs b) (hmark : x.mark = s.tbs.mark)
    (hpin : x.pin = s.tbs.pin) (hverify : x.verify = s.tbs.verify) : Quiet s (s.withTbs x) :=
  quiet_withTbs_of_ok fun _ h => h.of_eq hbank hmark hpin hverify

theorem bankOf_same {t u : Tbs} (h0 : u.bank0 = t.bank0) (h1 : u.bank1 = t.bank1) (b : BankId) :
    bankOf u b = bankOf t b := by
  cases b
  · exact h0
  · exact h1

theorem bankRefusal_none {t : Tbs} {b : BankId} (h : bankRefusal t b = none) :
    (bankOf t b).state ≠ .active ∧ ((bankOf t b).state = .ready → t.pin ≠ some b) := by
  unfold bankRefusal at h
  cases hs : (bankOf t b).state <;> simp_all

theorem quiet_beginBank {s : State} {b : BankId} (h : bankRefusal s.tbs b = none) (count : Nat) (payload : List Byte) :
    Quiet s (beginBank b count payload s) := by
  obtain ⟨hnotActive, hready⟩ := bankRefusal_none h
  refine quiet_withTbs_of_ok fun p ht => ht.setBank_unmarked hnotActive (fun hp => ?_) nofun rfl
  rcases ht.pin b hp with ha | hr
  · exact hnotActive ha
  · exact hready hr hp

theorem quiet_beginLoad {s : State} {target : Target} (h : beginRefusal s target = none) (count : Nat)
    (payload : List Byte) : Quiet s (beginLoad target count payload s) := by
  cases target with
  | snap0 => exact quiet_beginBank h count payload
  | snap1 => exact quiet_beginBank h count payload
  | ghost => exact quiet_smallTables (bankOf_same rfl rfl) rfl rfl rfl
  | directions => exact quiet_smallTables (bankOf_same rfl rfl) rfl rfl rfl
  | glyph => exact quiet_smallTables (bankOf_same rfl rfl) rfl rfl rfl

theorem quiet_takeLoadBegin (tag : Byte) (payload : List Byte) (s : State) : Quiet s (takeLoadBegin tag payload s) := by
  unfold takeLoadBegin
  split
  next => exact quiet_refuseClass ..
  next target _ =>
    dsimp only
    split
    next => exact quiet_refuseClass ..
    next hok =>
      split
      · exact quiet_beginLoad hok ..
      · exact quiet_refuseClass ..

theorem quiet_storeRecords (target : Target) (data : List Byte) (s : State) :
    Quiet s (storeRecords target data s) := by
  cases target with
  | snap0 => exact quiet_withTbs_of_ok fun p h => h.setBank_contents (b := .snap0) rfl rfl
  | snap1 => exact quiet_withTbs_of_ok fun p h => h.setBank_contents (b := .snap1) rfl rfl
  | ghost => exact quiet_smallTables (bankOf_same rfl rfl) rfl rfl rfl
  | directions => exact quiet_smallTables (bankOf_same rfl rfl) rfl rfl rfl
  | glyph => exact quiet_smallTables (bankOf_same rfl rfl) rfl rfl rfl

/-- What the tests of LOAD_DATA and LOAD_END answer: a refusal, or the open load of a target. -/
theorem loadTests_cases (tag : Byte) (c : PacketClass) (payload : List Byte) (s : State) :
    (∃ cause, loadTests tag c payload s = .inl (refuseClass tag c cause s)) ∨
    ∃ target cursor count, loadTests tag c payload s = .inr (target, cursor, count) ∧
      openLoad s.tbs target = some (cursor, count) := by
  unfold loadTests
  split
  next => exact .inl ⟨_, rfl⟩
  next target _ =>
    split
    next => exact .inl ⟨_, rfl⟩
    next =>
      split
      next => exact .inl ⟨_, rfl⟩
      next cursor count h => exact .inr ⟨target, cursor, count, rfl, h⟩

theorem quiet_takeLoadData (tag : Byte) (payload : List Byte) (s : State) : Quiet s (takeLoadData tag payload s) := by
  unfold takeLoadData
  rcases loadTests_cases tag .loadData payload s with ⟨cause, h⟩ | ⟨target, cursor, count, h, -⟩ <;> rw [h]
  · exact quiet_refuseClass ..
  · dsimp only
    split
    · exact quiet_refuse ..
    · split
      · exact quiet_refuse ..
      · exact quiet_storeRecords ..

theorem quiet_commitGhosts (s : State) : Quiet s (commitGhosts s) := by
  unfold commitGhosts
  dsimp only
  split
  · exact (quiet_tableReport ..).after (quiet_smallTables (bankOf_same rfl rfl) rfl rfl rfl)
  · rfl

theorem quiet_commitDirections (s : State) : Quiet s (commitDirections s) := by
  unfold commitDirections
  dsimp only
  split
  · exact (quiet_tableReport ..).after (quiet_smallTables (bankOf_same rfl rfl) rfl rfl rfl)
  · rfl

theorem quiet_commitGlyphs (s : State) : Quiet s (commitGlyphs s) := by
  unfold commitGlyphs
  dsimp only
  split
  · exact (quiet_tableReport ..).after (quiet_smallTables (bankOf_same rfl rfl) rfl rfl rfl)
  · rfl

theorem quiet_commitStaged (s : State) : Quiet s (commitStaged s) :=
  ((quiet_commitGhosts s).trans (quiet_commitDirections _)).trans (quiet_commitGlyphs _)

/-- A bank whose load or build goes on or ends: it was neither ACTIVE nor READY, and does not become ACTIVE. -/
theorem quiet_bankMoves {s : State} {b : BankId} {x : Bank} (hnotActive : (bankOf s.tbs b).state ≠ .active)
    (hnotReady : (bankOf s.tbs b).state ≠ .ready) (hx : x.state ≠ .active) (hfate : x.fate = (bankOf s.tbs b).fate) :
    Quiet s (s.withTbs (setBank s.tbs b x)) :=
  quiet_withTbs_of_ok fun _ h => h.setBank_unused hnotActive hnotReady hx (hfate.trans (h.fate_none hnotReady))

theorem quiet_startBuild {s : State} {b : BankId} (h : (bankOf s.tbs b).state = .loading) (tag : Byte) (crc : Word16) :
    Quiet s (startBuild b tag crc s) := quiet_bankMoves (by rw [h]; nofun) (by rw [h]; nofun) nofun rfl

theorem quiet_bankMismatch {s : State} {b : BankId} (h : (bankOf s.tbs b).state = .loading) (tag : Byte) :
    Quiet s (bankMismatch b tag s) :=
  (quiet_tableReport ..).after (quiet_bankMoves (by rw [h]; nofun) (by rw [h]; nofun) nofun rfl)

theorem quiet_completeBuild (b : BankId) (s : State) : Quiet s (completeBuild b s) := by
  unfold completeBuild
  split
  next h =>
    exact (quiet_tableReport ..).after (quiet_bankMoves (by rw [h]; nofun) (by rw [h]; nofun) nofun rfl)
  next => rfl

/-! ## Search requests and publication (R99, R113) -/

theorem TbsOk.fates_none {t : Tbs} (h : TbsOk t none) (b : BankId) : (bankOf t b).fate = none := by
  by_contra hf
  exact nomatch h.pinned.symm.trans (h.fate b hf).2

/-- The ACTIVE bank may be pinned when no bank is (R83). -/
theorem TbsOk.pin_active {t : Tbs} (h : TbsOk t none) : TbsOk { t with pin := activeBank t } (activeBank t) := by
  have hbank : ∀ b, bankOf { t with pin := activeBank t } b = bankOf t b := bankOf_same rfl rfl
  refine ⟨?_, fun b hf => ?_, fun b hp => ?_, fun b => ?_, fun b => ?_, rfl⟩
  · simpa only [hbank] using h.one
  · rw [hbank] at hf; exact absurd (h.fates_none b) hf
  · rw [hbank]; exact .inl (activeBank_state hp)
  · simpa only [MarkOk, hbank] using h.mark b
  · simpa only [VerifyOk, hbank] using h.verify b

/-- The snapshot of a search obeys the law of coordinates. -/
theorem takeSnapshot_ok {s : State} (h : CoordinatesOk s) (p : Progress) : FlightOk ⟨takeSnapshot s, p⟩ := by
  obtain ⟨hmail, -, -, -, hlive, -⟩ := h
  exact ⟨hmail, fun a ha => hlive a (List.mem_of_getLast? ha)⟩

/-- A search that starts pins the ACTIVE bank, given that no bank is pinned for another. -/
theorem quiet_startSearch {s : State} (h : TablesOk s → TbsOk s.tbs none) : Quiet s (startSearch s) where
  queue := id
  path := id
  gestures := id
  tables := fun hs => (tablesOk_iff _).mpr (h hs).pin_active
  coordinates := by
    intro hs
    have hflight := takeSnapshot_ok hs (firstProgress s.tbs (takeSnapshot s))
    obtain ⟨hmail, hpub, hlatch, -, hrest⟩ := hs
    exact ⟨hmail, hpub, hlatch, fun f hf => Option.some.inj hf ▸ hflight, hrest⟩
  settings := id
  vpl := rfl

theorem quiet_searchRequest (s : State) : Quiet s (searchRequest s) := by
  cases h : s.sse.flight with
  | none =>
    rw [searchRequest_idle h]
    refine quiet_startSearch fun hs => ?_
    have ht := (tablesOk_iff s).mp hs
    rwa [flightBank, h] at ht
  | some f =>
    rw [searchRequest_busy h]
    exact ⟨⟨⟨id, id, id, id, id⟩, id⟩, rfl⟩

theorem quiet_requestIf (wanted : Bool) (s : State) : Quiet s (requestIf wanted s) := by
  cases wanted
  · exact .refl s
  · exact quiet_searchRequest s

theorem meetFate_fate (b : Bank) : (meetFate b).fate = none := by
  unfold meetFate
  split
  next h => exact h
  next => rfl
  next => rfl

/-- A bank that meets its fate leaves use; with none it stays as it is. -/
theorem meetFate_eq_or {b : Bank} : meetFate b = b ∨ b.fate ≠ none ∧ (meetFate b).state ≠ .active := by
  unfold meetFate
  split
  next => exact .inl rfl
  next h => exact .inr ⟨by rw [h]; nofun, nofun⟩
  next h => exact .inr ⟨by rw [h]; nofun, nofun⟩

/-- With the pin released no bank holds a fate and no pin stands (R84). -/
theorem TbsOk.releasePin {t : Tbs} {p : Option BankId} (h : TbsOk t p) : TbsOk (releasePin t) none := by
  unfold Machine.releasePin
  cases hp : t.pin with
  | none => exact ⟨h.one, h.fate, h.pin, h.mark, h.verify, hp⟩
  | some b =>
    have hsame : bankOf { setBank t b (meetFate (bankOf t b)) with pin := none } b = meetFate (bankOf t b) := by
      cases b <;> rfl
    have hother : ∀ c, c ≠ b →
        bankOf { setBank t b (meetFate (bankOf t b)) with pin := none } c = bankOf t c := by
      intro c hc
      refine Eq.trans ?_ (bankOf_setBank_other hc t (meetFate (bankOf t b)))
      cases c <;> rfl
    have hfates : ∀ c, (bankOf { setBank t b (meetFate (bankOf t b)) with pin := none } c).fate = none := by
      intro c
      by_cases hcb : c = b
      · rw [hcb, hsame, meetFate_fate]
      · rw [hother c hcb]
        by_contra hf
        exact hcb (Option.some.inj ((h.fate c hf).2.symm.trans hp))
    have hready : (bankOf t b).fate ≠ none → (bankOf t b).state = .ready := fun hf => (h.fate b hf).1
    have hkept : ∀ c, (bankOf { setBank t b (meetFate (bankOf t b)) with pin := none } c) = bankOf t c ∨
        (bankOf t c).fate ≠ none ∧
          (bankOf { setBank t b (meetFate (bankOf t b)) with pin := none } c).state ≠ .active := by
      intro c
      by_cases hcb : c = b
      · rw [hcb, hsame]; exact meetFate_eq_or
      · exact .inl (hother c hcb)
    have hwas : ∀ c, (bankOf { setBank t b (meetFate (bankOf t b)) with pin := none } c).state = .active →
        (bankOf t c).state = .active := by
      intro c hc
      rcases hkept c with hk | ⟨-, hk⟩
      · rwa [hk] at hc
      · exact absurd hc hk
    refine ⟨fun a c ha hc => h.one a c (hwas a ha) (hwas c hc), fun c hf => absurd (hfates c) hf, nofun,
      fun c hm => ?_, fun c hv => ?_, rfl⟩
    · have hm : t.mark.map Mark.target = some (some c) := by simpa using hm
      obtain ⟨hr, hf⟩ := h.mark c hm
      rcases hkept c with hk | ⟨hk, -⟩
      · rw [hk]; exact ⟨hr, hf⟩
      · exact absurd hf hk
    · have hv : t.verify.map VerifyJob.bank = some c := by simpa using hv
      have ha := h.verify c hv
      rcases hkept c with hk | ⟨hk, -⟩
      · rw [hk]; exact ha
      · exact absurd ((h.fate c hk).1.symm.trans ha) nofun

theorem indefinitePoint_ok : PointOk indefinitePoint := ⟨.inr ⟨rfl, rfl⟩, .inr ⟨rfl, rfl⟩⟩

theorem storedPoint_ok (x y : BitVec 24) : PointOk (storedPoint x y) := ⟨storedCoord_ok x, storedCoord_ok y⟩

theorem constrainedPoint_ok {pointer anchor : Point} (h : PointOk anchor) (first : Direction) (rest : List Direction)
    (step : Int) : PointOk (constrainedPoint pointer anchor first rest step) := by
  unfold constrainedPoint
  dsimp only
  split
  · exact h
  · exact ⟨computedCoord_ok .., computedCoord_ok ..⟩

theorem constraintPhase_ok {n : Snapshot} (h : ∀ a ∈ n.anchor, PointOk a) {p : Point} (hp : constraintPhase n = some p) :
    PointOk p := by
  unfold constraintPhase at hp
  split at hp
  next =>
    split at hp
    next first rest anchor _ ha =>
      cases hp
      exact constrainedPoint_ok (h anchor ha) ..
    next => cases hp
  next => cases hp

/-- The result of a search obeys the law of coordinates (R33). -/
theorem searchResult_ok (t : Tbs) {f : Flight} (h : FlightOk f) : ResultOk (searchResult t f) := by
  obtain ⟨hraw, hanchor⟩ := h
  unfold searchResult
  dsimp only
  split
  · exact ⟨hraw, hraw⟩
  · split
    next => exact ⟨hraw, storedPoint_ok ..⟩
    next =>
      split
      next p hp => exact ⟨hraw, constraintPhase_ok hanchor hp⟩
      next =>
        split
        · exact ⟨hraw, computedCoord_ok .., computedCoord_ok ..⟩
        · exact ⟨hraw, hraw⟩

/-- The rerun of a publication, or the return to IDLE, given that no bank is pinned. -/
theorem quiet_rerunOrIdle {s : State} (h : TablesOk s → TbsOk s.tbs none) (rerun : Bool) :
    Quiet s (rerunOrIdle rerun s) := by
  unfold rerunOrIdle
  split
  · exact quiet_startSearch h
  · have htables : TablesOk s → TablesOk (s.withSse { s.sse with flight := none, rerun := false }) :=
      fun hs => (tablesOk_iff (s.withSse { s.sse with flight := none, rerun := false })).mpr (h hs)
    have hcoordinates : CoordinatesOk s → CoordinatesOk (s.withSse { s.sse with flight := none, rerun := false }) :=
      fun ⟨hmail, hpub, hlatch, _, hrest⟩ => ⟨hmail, hpub, hlatch, fun f hf => absurd hf (Option.not_mem_none f), hrest⟩
    exact ⟨⟨⟨id, id, id, htables, hcoordinates⟩, id⟩, rfl⟩

end Sys2Proof.Machine

/-! The operations of the table store and of the search engine that go beyond one bank: ends of loads, activation, verifies,
the tables step of a RESET, and publication. -/

namespace Sys2Proof.Machine

/-! ## LOAD_END (R74, R90) -/

theorem quiet_stageTarget (target : Target) (tag : Byte) (s : State) : Quiet s (stageTarget target tag s) := by
  cases target with
  | snap0 | snap1 => exact .refl s
  | ghost | directions | glyph => exact quiet_smallTables (bankOf_same rfl rfl) rfl rfl rfl

theorem quiet_stageMismatch (target : Target) (tag : Byte) (s : State) : Quiet s (stageMismatch target tag s) := by
  refine (quiet_tableReport ..).after ?_
  cases target with
  | snap0 | snap1 => exact .refl s
  | ghost | directions | glyph => exact quiet_smallTables (bankOf_same rfl rfl) rfl rfl rfl

theorem quiet_stageOrCommit (target : Target) (tag : Byte) (s : State) : Quiet s (stageOrCommit target tag s) := by
  unfold stageOrCommit
  dsimp only
  split
  · exact quiet_stageTarget ..
  · refine Quiet.after ?_ (quiet_stageTarget target tag s)
    cases target with
    | snap0 | snap1 => exact .refl _
    | ghost => exact quiet_commitGhosts _
    | directions => exact (quiet_searchRequest _).after (quiet_commitDirections _)
    | glyph => exact quiet_commitGlyphs _

theorem openLoad_bank {t : Tbs} {b : BankId} {r : Nat × Nat} (h : openLoad t (bankTarget b) = some r) :
    (bankOf t b).state = .loading := by
  cases b <;> simp only [bankTarget, openLoad, Option.ite_none_right_eq_some] at h <;> exact h.1

theorem quiet_closeLoad {s : State} {target : Target} {r : Nat × Nat} (h : openLoad s.tbs target = some r) (tag : Byte)
    (crc : Word16) : Quiet s (closeLoad target tag crc s) := by
  unfold closeLoad
  cases target with
  | snap0 =>
    dsimp only
    split
    · exact quiet_startBuild (openLoad_bank (b := .snap0) h) ..
    · exact quiet_bankMismatch (openLoad_bank (b := .snap0) h) ..
  | snap1 =>
    dsimp only
    split
    · exact quiet_startBuild (openLoad_bank (b := .snap1) h) ..
    · exact quiet_bankMismatch (openLoad_bank (b := .snap1) h) ..
  | ghost | directions | glyph =>
    dsimp only
    split
    · exact quiet_stageOrCommit ..
    · exact quiet_stageMismatch ..

theorem quiet_takeLoadEnd (tag : Byte) (payload : List Byte) (s : State) : Quiet s (takeLoadEnd tag payload s) := by
  unfold takeLoadEnd
  rcases loadTests_cases tag .loadEnd payload s with ⟨cause, h⟩ | ⟨target, cursor, count, h, hload⟩ <;> rw [h]
  · exact quiet_refuseClass ..
  · dsimp only
    split
    · exact quiet_refuseClass ..
    · exact quiet_closeLoad hload ..

/-! ## Activation (R80 to R82) -/

/-- A mark that takes effect keeps the law of the table store: the bank it makes ACTIVE was READY with no fate, the bank
before it is READY, and no verify runs on. -/
theorem TbsOk.afterMark {t x : Tbs} {p : Option BankId} (h : TbsOk t p) (hbank : ∀ b, bankOf x b = bankAfterMark t b)
    (hmark : x.mark = none) (hpin : x.pin = t.pin)
    (hverify : x.verify = if abortedVerify t = none then t.verify else none) : TbsOk x p := by
  cases hm : t.mark with
  | none =>
    have hnone : abortedVerify t = none := by simp [abortedVerify, hm]
    refine h.of_eq (fun b => ?_) (hmark.trans hm.symm) hpin (by rw [hverify, if_pos hnone])
    rw [hbank, bankAfterMark, hm]
  | some m =>
    have hcases : ∀ b, m.target = some b ∧ (bankOf x b).state = .active ∧ (bankOf x b).fate = none ∨
        m.target ≠ some b ∧ (bankOf x b).state ≠ .active ∧ (bankOf x b).fate = (bankOf t b).fate ∧
          ((bankOf t b).state = .active ∨ (bankOf t b).state = .ready → (bankOf x b).state = .ready) := by
      intro b
      rw [hbank]
      simp only [bankAfterMark, hm]
      by_cases htarget : m.target = some b
      · have hready := h.mark b (by simp [hm, htarget])
        exact .inl ⟨htarget, by rw [if_pos htarget], by rw [if_pos htarget]; exact hready.2⟩
      · rw [if_neg htarget]
        by_cases hactive : activeBank t = some b
        · rw [if_pos hactive]
          exact .inr ⟨htarget, nofun, rfl, fun _ => rfl⟩
        · rw [if_neg hactive]
          have hnot : (bankOf t b).state ≠ .active := fun ha => hactive ((h.activeBank_eq_some_iff b).mpr ha)
          exact .inr ⟨htarget, hnot, rfl, fun hs => hs.resolve_left hnot⟩
    have hnoVerify : x.verify = none := by
      rw [hverify]
      cases hv : t.verify with
      | none => simp
      | some j =>
        have hactive := (h.activeBank_eq_some_iff j.bank).mpr (h.verify j.bank (by simp [hv]))
        simp [abortedVerify, hm, hv, hactive]
    refine ⟨fun a b ha hb => ?_, fun b hf => ?_, fun b hp => ?_, fun b hb => ?_, fun b hb => ?_, hpin.trans h.pinned⟩
    · rcases hcases a with ⟨hta, -, -⟩ | ⟨-, hna, -, -⟩
      · rcases hcases b with ⟨htb, -, -⟩ | ⟨-, hnb, -, -⟩
        · exact Option.some.inj (hta.symm.trans htb)
        · exact absurd hb hnb
      · exact absurd ha hna
    · rcases hcases b with ⟨-, -, hnone⟩ | ⟨-, -, hsame, hready⟩
      · exact absurd hnone hf
      · rw [hsame] at hf
        obtain ⟨hr, hpinned⟩ := h.fate b hf
        exact ⟨hready (.inr hr), hpin.trans hpinned⟩
    · rw [hpin] at hp
      rcases hcases b with ⟨-, ha, -⟩ | ⟨-, -, -, hready⟩
      · exact .inl ha
      · exact .inr (hready (h.pin b hp))
    · rw [hmark] at hb; cases hb
    · rw [hnoVerify] at hb; cases hb

theorem quiet_offered {l : List Report} (h : ∀ r ∈ l, isTrack r = false) (s : State) : Quiet s (s.offered l) := by
  induction l generalizing s with
  | nil => exact .refl s
  | cons r l ih =>
    exact (quiet_offer (h r (List.mem_cons_self ..)) s).trans (ih (fun q hq => h q (List.mem_cons_of_mem r hq)) _)

theorem quiet_applyMark (s : State) : Quiet s (applyMark s) := by
  obtain ⟨x, heq, hbank, hx⟩ := applyMark_eq s
  rw [heq]
  refine (quiet_offered (fun r hr => ?_) _).after (quiet_withTbs_of_ok fun p h => h.afterMark hbank ?_ ?_ ?_)
  · rcases List.mem_append.mp hr with hr | hr <;> obtain ⟨_, -, rfl⟩ := List.mem_map.mp hr <;> rfl
  · rw [hx]
  · rw [hx]
  · rw [hx]

theorem activate_eq_applyMark {m : Mark} {s : State} (h : s.tbs.mark = some m) : activate m s = applyMark s := by
  simp only [applyMark, h]

/-- A mark on a READY bank with no fate, or the mark NONE, may be set. -/
theorem TbsOk.set_mark {t : Tbs} {p : Option BankId} (h : TbsOk t p) {m : Mark}
    (hm : ∀ b, m.target = some b → (bankOf t b).state = .ready ∧ (bankOf t b).fate = none) :
    TbsOk { t with mark := some m } p := by
  have hbank : ∀ b, bankOf { t with mark := some m } b = bankOf t b := bankOf_same rfl rfl
  refine ⟨by simpa only [hbank] using h.one, fun b => ?_, fun b => ?_, fun b hb => ?_, fun b => ?_, h.pinned⟩
  · rw [FateOk, hbank]; exact h.fate b
  · rw [PinOk, hbank]; exact h.pin b
  · rw [hbank]; exact hm b (Option.some.inj hb)
  · rw [VerifyOk, hbank]; exact h.verify b

theorem quiet_setMark {m : Mark} {s : State}
    (hm : ∀ b, m.target = some b → (bankOf s.tbs b).state = .ready ∧ (bankOf s.tbs b).fate = none) :
    Quiet s (setMark m s) := by
  have hset : Quiet s (s.withTbs { s.tbs with mark := some m }) := quiet_withTbs_of_ok fun p h => h.set_mark hm
  unfold setMark
  split
  · exact hset
  · rw [activate_eq_applyMark rfl]
    exact hset.trans ((quiet_applyMark _).trans (quiet_searchRequest _))

/-- The mark may be removed. -/
theorem TbsOk.drop_mark {t : Tbs} {p : Option BankId} (h : TbsOk t p) : TbsOk { t with mark := none } p := by
  have hbank : ∀ b, bankOf { t with mark := none } b = bankOf t b := bankOf_same rfl rfl
  refine ⟨by simpa only [hbank] using h.one, fun b => ?_, fun b => ?_, (fun _ => nofun), fun b => ?_, h.pinned⟩
  · rw [FateOk, hbank]; exact h.fate b
  · rw [PinOk, hbank]; exact h.pin b
  · rw [VerifyOk, hbank]; exact h.verify b

theorem quiet_dropMark (s : State) : Quiet s (dropMark s) := quiet_withTbs_of_ok fun _ h => h.drop_mark

theorem quiet_takeActivate (tag : Byte) (payload : List Byte) (s : State) : Quiet s (takeActivate tag payload s) := by
  unfold takeActivate
  split
  next => exact quiet_refuseClass ..
  next b _ =>
    unfold activateBank
    split
    next => exact quiet_dropMark s
    next hready =>
      split
      next => exact quiet_refuseClass ..
      next hfate =>
        refine quiet_setMark fun c hc => ?_
        obtain rfl : b = c := Option.some.inj hc
        exact ⟨hready, by simpa using hfate⟩
    next => exact quiet_refuseClass ..
  next =>
    split
    · exact quiet_dropMark s
    · exact quiet_setMark nofun

/-! ## Verifies (R85 to R89) -/

/-- A verify may start on the ACTIVE bank. -/
theorem TbsOk.start_verify {t : Tbs} {p : Option BankId} (h : TbsOk t p) {j : VerifyJob}
    (hj : activeBank t = some j.bank) : TbsOk { t with verify := some j } p := by
  have hbank : ∀ b, bankOf { t with verify := some j } b = bankOf t b := bankOf_same rfl rfl
  refine ⟨by simpa only [hbank] using h.one, fun b => ?_, fun b => ?_, fun b => ?_, fun b hb => ?_, h.pinned⟩
  · rw [FateOk, hbank]; exact h.fate b
  · rw [PinOk, hbank]; exact h.pin b
  · rw [MarkOk, hbank]; exact h.mark b
  · obtain rfl : j.bank = b := Option.some.inj hb
    rw [hbank]; exact activeBank_state hj

theorem quiet_startVerify {s : State} {b : BankId} (h : activeBank s.tbs = some b) (tag : Byte) :
    Quiet s (startVerify b tag s) := quiet_withTbs_of_ok fun _ ht => ht.start_verify h

theorem quiet_takeVerify (tag : Byte) (s : State) : Quiet s (takeVerify tag s) := by
  unfold takeVerify
  split
  next => exact quiet_refuseClass ..
  next => rfl
  next b hactive _ => exact quiet_startVerify hactive tag

theorem quiet_setInterval (n : Nat) (s : State) : Quiet s (s.withTbs { s.tbs with interval := n }) :=
  quiet_smallTables (bankOf_same rfl rfl) rfl rfl rfl

theorem quiet_intervalExpiry (s : State) : Quiet s (intervalExpiry s) := by
  unfold intervalExpiry
  split
  next b hactive _ => exact (quiet_setInterval 0 s).trans (quiet_startVerify (s := s.withTbs { s.tbs with interval := 0 }) hactive 0)
  next => exact quiet_setInterval 0 s

theorem quiet_countActiveEnd (s : State) : Quiet s (countActiveEnd s) := by
  unfold countActiveEnd
  split
  · exact quiet_setInterval ..
  · split
    · exact quiet_intervalExpiry s
    · exact quiet_setInterval ..

theorem quiet_intervalEvent (s : State) : Quiet s (intervalEvent s) := by
  unfold intervalEvent
  split
  · exact quiet_intervalExpiry s
  · rfl

/-- The running verify may end. -/
theorem TbsOk.drop_verify {t : Tbs} {p : Option BankId} (h : TbsOk t p) : TbsOk { t with verify := none } p := by
  have hbank : ∀ b, bankOf { t with verify := none } b = bankOf t b := bankOf_same rfl rfl
  refine ⟨by simpa only [hbank] using h.one, fun b => ?_, fun b => ?_, fun b => ?_, (fun _ => nofun), h.pinned⟩
  · rw [FateOk, hbank]; exact h.fate b
  · rw [PinOk, hbank]; exact h.pin b
  · rw [MarkOk, hbank]; exact h.mark b

theorem leaveUse_pinned {t : Tbs} {b : BankId} (h : t.pin = some b) (f : Fate) :
    leaveUse b f t =
      { setBank t b { bankOf t b with state := .ready, fate := some f } with mark := unmark b t.mark } := if_pos h

theorem leaveUse_unpinned {t : Tbs} {b : BankId} (h : t.pin ≠ some b) (f : Fate) :
    leaveUse b f t = setBank t b (match f with
      | .empty => emptyBank
      | .damaged => { bankOf t b with state := .damaged, fate := none }) := (if_neg h).trans rfl

theorem leaveUse_other {t : Tbs} {b c : BankId} (h : c ≠ b) (f : Fate) : bankOf (leaveUse b f t) c = bankOf t c := by
  unfold leaveUse
  split
  · refine Eq.trans ?_ (bankOf_setBank_other h t { bankOf t b with state := .ready, fate := some f })
    cases c <;> rfl
  · exact bankOf_setBank_other h ..

@[simp] theorem leaveUse_pin (t : Tbs) (b : BankId) (f : Fate) : (leaveUse b f t).pin = t.pin := by
  unfold leaveUse
  split <;> simp

/-- A bank that is damaged leaves use, or keeps that fate while it is pinned (R84), with no verify running. -/
theorem TbsOk.leaveUse_damaged {t : Tbs} {p : Option BankId} {b : BankId} (h : TbsOk t p)
    (hactive : (bankOf t b).state = .active) (hverify : t.verify = none) : TbsOk (leaveUse b .damaged t) p := by
  by_cases hpin : t.pin = some b
  · have heq : leaveUse b .damaged t = { setBank t b { bankOf t b with state := .ready, fate := some .damaged } with
        mark := unmark b t.mark, verify := none } := by
      rw [leaveUse_pinned hpin]
      cases b <;> simp only [setBank, hverify]
    rw [heq]
    exact h.replace nofun (fun _ => ⟨rfl, hpin⟩) (fun _ => .inr rfl) (fun hm => absurd hm (unmark_target_ne b _))
      (fun _ _ => unmark_target) nofun nofun
  · have heq : leaveUse b .damaged t = { setBank t b { bankOf t b with state := .damaged, fate := none } with
        mark := t.mark, verify := none } := by
      rw [leaveUse_unpinned hpin]
      cases b <;> simp only [setBank, hverify]
    rw [heq]
    refine h.replace nofun (fun hf => absurd rfl hf) (fun hp => absurd hp hpin) (fun hm => ?_) (fun _ _ => id) nofun nofun
    exact absurd ((h.mark b hm).1.symm.trans hactive) nofun

theorem quiet_completeVerify (upset : Word16) (s : State) : Quiet s (completeVerify upset s) := by
  unfold completeVerify
  split
  next => rfl
  next j hj =>
    dsimp only
    have hdrop : Quiet s (s.withTbs { s.tbs with verify := none }) := quiet_withTbs_of_ok fun _ h => h.drop_verify
    split
    · exact (quiet_tableReport ..).after hdrop
    · refine (quiet_tableReport ..).after (quiet_withTbs_of_ok fun p h => ?_)
      have hactive : (bankOf s.tbs j.bank).state = .active := h.verify j.bank (by rw [hj]; rfl)
      have hsame : bankOf { s.tbs with verify := none } j.bank = bankOf s.tbs j.bank := bankOf_same rfl rfl _
      exact (h.drop_verify.leaveUse_damaged (hsame ▸ hactive) rfl).of_eq (bankOf_same rfl rfl) rfl rfl rfl

/-! ## The tables step of a RESET (R95) -/

/-- A bank that leaves use as EMPTY is out of use, or READY with that fate while it is pinned. -/
theorem leaveUse_empty_same (t : Tbs) (b : BankId) :
    (bankOf (leaveUse b .empty t) b).state ≠ .active ∧
    ((bankOf (leaveUse b .empty t) b).fate ≠ none → (bankOf (leaveUse b .empty t) b).state = .ready ∧ t.pin = some b) ∧
    (t.pin = some b → (bankOf (leaveUse b .empty t) b).state = .ready) := by
  by_cases hpin : t.pin = some b
  · rw [leaveUse_pinned hpin]
    cases b <;> exact ⟨nofun, fun _ => ⟨rfl, hpin⟩, fun _ => rfl⟩
  · rw [leaveUse_unpinned hpin, bankOf_setBank_same]
    exact ⟨nofun, fun hf => absurd rfl hf, fun hp => absurd hp hpin⟩

/-- The two banks after the tables step of a RESET. -/
def resetBanks (t : Tbs) : Tbs := leaveUse .snap1 .empty (leaveUse .snap0 .empty t)

theorem resetBanks_pin (t : Tbs) : (resetBanks t).pin = t.pin := by simp [resetBanks]

theorem resetBanks_bank (t : Tbs) (b : BankId) :
    (bankOf (resetBanks t) b).state ≠ .active ∧
    ((bankOf (resetBanks t) b).fate ≠ none → (bankOf (resetBanks t) b).state = .ready ∧ t.pin = some b) ∧
    (t.pin = some b → (bankOf (resetBanks t) b).state = .ready) := by
  cases b with
  | snap0 =>
    rw [resetBanks, leaveUse_other (by decide)]
    exact leaveUse_empty_same t .snap0
  | snap1 =>
    have h := leaveUse_empty_same (leaveUse .snap0 .empty t) .snap1
    rwa [leaveUse_pin] at h

theorem quiet_tablesReset (s : State) : Quiet s (tablesReset s) := by
  refine quiet_withTbs_of_ok fun p h => ?_
  have hbank := resetBanks_bank s.tbs
  have hp : (resetBanks s.tbs).pin = s.tbs.pin := resetBanks_pin s.tbs
  have hkept : ∀ b, bankOf { resetBanks s.tbs with
      mark := none, verify := none, ghostStage := idleStaging, directionStage := idleStaging, glyphStage := idleStaging
      ghosts := [], directions := [], glyphs := builtinGlyphs, snapDown := false } b = bankOf (resetBanks s.tbs) b :=
    bankOf_same rfl rfl
  change TbsOk { resetBanks s.tbs with
    mark := none, verify := none, ghostStage := idleStaging, directionStage := idleStaging, glyphStage := idleStaging
    ghosts := [], directions := [], glyphs := builtinGlyphs, snapDown := false } p
  refine ⟨fun a _ ha => ?_, fun b hf => ?_, fun b hb => ?_, nofun, nofun, hp.trans h.pinned⟩
  · rw [hkept] at ha; exact absurd ha (hbank a).1
  · rw [hkept] at hf ⊢
    obtain ⟨hr, hpinned⟩ := (hbank b).2.1 hf
    exact ⟨hr, hp.trans hpinned⟩
  · rw [hkept]; exact .inr ((hbank b).2.2 (hp.symm.trans hb))

/-! ## Publication (R113) -/

/-- The state of a publication between the release of the pin and the TRACK: the new result, no search in flight. -/
def released (r : ResultRecord) (s : State) : State := (s.withSse ⟨none, false, r⟩).withTbs (releasePin s.tbs)

/-- The TRACK of a publication, when track is on. -/
def trackIf (on : Bool) (r : ResultRecord) (s : State) : State := if on then offerTrack r s else s

/-- A publication: the result and the pin, the TRACK, then the rerun or IDLE. -/
theorem publish_flight {s : State} {f : Flight} (h : s.sse.flight = some f) :
    publish s = rerunOrIdle s.sse.rerun (trackIf (trackOn s.pds.settings) (searchResult s.tbs f)
      (released (searchResult s.tbs f) s)) := by
  have hset (r : ResultRecord) (b : Bool) :
      rerunOrIdle b (trackIf (trackOn s.pds.settings) r
        ((s.withSse { s.sse with published := r }).withTbs (releasePin s.tbs))) =
      rerunOrIdle b (trackIf (trackOn s.pds.settings) r (released r s)) := by
    cases trackOn s.pds.settings <;> simp only [trackIf, offerTrack_eq] <;> cases b <;> rfl
  rw [← hset]
  simp only [publish, h]
  rfl

theorem quiet_released {r : ResultRecord} {s : State} (h : CoordinatesOk s → ResultOk r) : Quiet s (released r s) where
  queue := id
  path := id
  gestures := id
  tables := fun hs => (tablesOk_iff (released r s)).mpr ((tablesOk_iff s).mp hs).releasePin
  coordinates := by
    intro hs
    have hr := h hs
    obtain ⟨hmail, -, hlatch, -, hrest⟩ := hs
    exact ⟨hmail, hr, hlatch, fun f hf => absurd hf (Option.not_mem_none f), hrest⟩
  settings := id
  vpl := rfl

theorem quiet_publish (s : State) : Quiet s (publish s) := by
  cases hf : s.sse.flight with
  | none =>
    have hidle : publish s = s := by simp only [publish, hf]
    rw [hidle]
  | some f =>
    rw [publish_flight hf]
    have hresult : CoordinatesOk s → ResultOk (searchResult s.tbs f) := fun ⟨_, _, _, hflight, _⟩ =>
      searchResult_ok s.tbs (hflight f hf)
    generalize searchResult s.tbs f = r at hresult
    have hreleased : Quiet s (released r s) := quiet_released hresult
    have hflight : (trackIf (trackOn s.pds.settings) r (released r s)).sse = (released r s).sse := by
      cases trackOn s.pds.settings <;> simp only [trackIf, offerTrack_eq] <;> rfl
    have htold : Quiet s (trackIf (trackOn s.pds.settings) r (released r s)) := by
      cases trackOn s.pds.settings
      · exact hreleased
      · exact hreleased.trans (quiet_offerTrack ..)
    refine (quiet_rerunOrIdle (fun ht => ?_) _).after htold
    have hpin := (tablesOk_iff _).mp ht
    rwa [hflight] at hpin

end Sys2Proof.Machine

/-! The operations of the gesture controller keep the laws of contexts (R118, R119, R126, R132) and of coordinates. -/

namespace Sys2Proof.Machine

/-! ## Contexts -/

theorem contextOk_idle (g : Gesture) : ContextOk (idleGesture g) :=
  ⟨fun _ => ⟨rfl, rfl, rfl⟩, fun _ => rfl, nofun, Nat.zero_le _, nofun, Nat.zero_le _, List.forall_mem_nil _,
    List.forall_mem_nil _⟩

/-- The live gesture may become any context that obeys the laws. -/
theorem quiet_changeLive {g : Gesture} {s : State} (h : GesturesOk s → ContextOk g)
    (hc : CoordinatesOk s → VerticesOk g) : Quiet s (changeLive g s) := by
  refine quiet_withGcu (fun hs => ⟨h hs, fun i => ?_⟩) (fun hs => ?_)
  · rw [State.withGcu_gcu, slotOf_withLive]
    exact hs.2 i
  · have hv := hc hs
    obtain ⟨hmail, hpub, hlatch, hflight, -, hslots⟩ := hs
    refine ⟨hmail, hpub, hlatch, hflight, hv, fun i => ?_⟩
    rw [State.withGcu_gcu, slotOf_withLive]
    exact hslots i

theorem quiet_changeLive_idle (g : Gesture) (s : State) : Quiet s (changeLive (idleGesture g) s) :=
  quiet_changeLive (fun _ => contextOk_idle g) fun _ => List.forall_mem_nil _

/-- A slot may take a context that obeys the laws, or become EMPTY. -/
theorem quiet_setSlot {s : State} {c : Option Gesture} (h : GesturesOk s → SlotOk c)
    (hc : CoordinatesOk s → ∀ g ∈ c, VerticesOk g) (i : Fin 4) : Quiet s (s.withGcu (setSlot s.gcu i c)) := by
  refine quiet_withGcu (fun hs => ⟨?_, fun j => ?_⟩) (fun hs => ?_)
  · rw [State.withGcu_gcu, setSlot_live]
    exact hs.1
  · rw [State.withGcu_gcu, slotOf_setSlot]
    split
    · exact h hs
    · exact hs.2 j
  · have hv := hc hs
    obtain ⟨hmail, hpub, hlatch, hflight, hlive, hslots⟩ := hs
    refine ⟨hmail, hpub, hlatch, hflight, ?_, fun j => ?_⟩
    · rw [State.withGcu_gcu, setSlot_live]
      exact hlive
    · rw [State.withGcu_gcu, slotOf_setSlot]
      split
      · exact hv
      · exact hslots j

theorem quiet_emptySlot (s : State) (i : Fin 4) : Quiet s (s.withGcu (setSlot s.gcu i none)) :=
  quiet_setSlot (fun _ g hg => absurd hg (Option.not_mem_none g)) (fun _ g hg => absurd hg (Option.not_mem_none g)) i

/-- A slot may take the live gesture when that is not IDLE. -/
theorem quiet_storeLive {s : State} (hlive : s.gcu.live.state ≠ .idle) (i : Fin 4) :
    Quiet s (s.withGcu (setSlot s.gcu i (some s.gcu.live))) := by
  refine quiet_setSlot (fun hs g hg => ?_) (fun hs g hg => ?_) i
  · obtain rfl : s.gcu.live = g := Option.some.inj hg
    exact ⟨hs.1, hlive⟩
  · obtain rfl : s.gcu.live = g := Option.some.inj hg
    obtain ⟨-, -, -, -, hverts, -⟩ := hs
    exact hverts

/-! ## GESTURE (R121) -/

/-- A gesture that GESTURE begins, its handles at most eight and its anchor VALID and not with a POINT. -/
theorem contextOk_begin {kind : GestureKind} {close : Bool} {anchor : Option Point} {handles : List Word16}
    {epoch : Word16} (hhandles : handles.length ≤ 8)
    (hanchor : ∀ a ∈ anchor, pointValid a = true ∧ kind ≠ .point) :
    ContextOk ⟨kind, if anchor.isSome then .tracking else .armed, anchor.toList, close && kind == .chain, handles,
      epoch⟩ := by
  cases anchor with
  | none =>
    exact ⟨nofun, fun _ => rfl, nofun, Nat.zero_le _, fun h => by simp at h; exact h.2, hhandles,
      List.forall_mem_nil _, List.forall_mem_nil _⟩
  | some a =>
    obtain ⟨hvalid, hkind⟩ := hanchor a rfl
    exact ⟨nofun, nofun, fun _ => ⟨Nat.le_refl 1, hkind, fun _ => rfl⟩, by simp, fun h => by simp at h; exact h.2,
      hhandles, fun v hv => List.mem_singleton.mp hv ▸ hvalid, List.forall_mem_nil _⟩

theorem quiet_takeGestureFields (tag kindCode : Byte) (close : Bool) {anchor : Option Point}
    (hcoord : ∀ a ∈ anchor, PointOk a) (handles : List Word16) (s : State) :
    Quiet s (takeGestureFields tag kindCode close anchor handles s) := by
  unfold takeGestureFields
  split
  next => exact quiet_refuseClass ..
  next hhandles =>
    split
    next => exact quiet_refuseClass ..
    next kind _ =>
      split
      next => exact quiet_refuseClass ..
      next =>
        split
        next => exact quiet_refuseClass ..
        next htests =>
          refine (quiet_searchRequest _).after (quiet_changeLive (fun _ => ?_) (fun _ => ?_))
          · refine contextOk_begin (Nat.le_of_not_lt hhandles) fun a ha => ?_
            obtain rfl : anchor = some a := ha
            simpa using htests
          · exact fun v hv => hcoord v (Option.mem_toList.mp hv)

theorem quiet_takeGesture (tag : Byte) (payload : List Byte) (s : State) : Quiet s (takeGesture tag payload s) := by
  unfold takeGesture
  dsimp only
  split
  · exact quiet_takeGestureFields _ _ _ (fun a ha => Option.some.inj ha ▸ storedPoint_ok ..) _ _
  · exact quiet_takeGestureFields _ _ _ (fun a ha => absurd ha (Option.not_mem_none a)) _ _

/-! ## Commits (R122 to R128) -/

/-- The shown result obeys the law of coordinates. -/
theorem shownResult_ok {s : State} (h : CoordinatesOk s) : ResultOk (shownResult s) := by
  obtain ⟨-, hpub, hlatch, -⟩ := h
  unfold shownResult
  split
  · exact hlatch
  · exact hpub

theorem samePoint_comm (p q : Point) : samePoint p q = samePoint q p := by
  unfold samePoint
  rw [Bool.beq_comm (a := p.x.value), Bool.beq_comm (a := p.y.value), Bool.and_comm (pointValid p)]

/-- What the tests of R124 leave: a VALID point that is no duplicate of the last vertex. -/
theorem commitFault_none {g : Gesture} {r : ResultRecord} (h : commitFault g r = none) :
    pointValid r.point = true ∧ r.proximity = true ∧
      (g.state = .tracking → ∀ v, g.vertices.getLast? = some v → samePoint v r.point = false) := by
  unfold commitFault at h
  split at h
  next => cases h
  next hvalid =>
    split at h
    next => cases h
    next hprox =>
      split at h
      next => cases h
      next hdup =>
        refine ⟨by simpa using hvalid, by simpa using hprox, fun ht v hv => ?_⟩
        rw [samePoint_comm, ← Bool.not_eq_true]
        exact fun hs => hdup ⟨ht, by rw [hv]; exact hs⟩

/-- Neighbours of a vertex list with one more vertex: those before, and the last with the new one. -/
theorem neighbours_append {l : List Point} {p : Point}
    (h : ∀ e ∈ l.zip (l.drop 1), samePoint e.1 e.2 = false)
    (hlast : ∀ v, l.getLast? = some v → samePoint v p = false) :
    ∀ e ∈ (l ++ [p]).zip ((l ++ [p]).drop 1), samePoint e.1 e.2 = false := by
  induction l with
  | nil => exact List.forall_mem_nil _
  | cons a l ih =>
    cases l with
    | nil =>
      intro e he
      obtain rfl : e = (a, p) := List.mem_singleton.mp he
      exact hlast a rfl
    | cons b l =>
      intro e he
      rcases List.mem_cons.mp he with rfl | he
      · exact h (a, b) (List.mem_cons_self ..)
      · exact ih (fun e he => h e (List.mem_cons_of_mem _ he)) (fun v hv => hlast v (by simpa using hv)) e he

/-- A gesture that goes on after a commit (R126). -/
theorem contextOk_commit {g : Gesture} {p : Point} (h : ContextOk g) (hlive : g.state ≠ .idle)
    (hends : commitEnds g.kind (g.vertices ++ [p]).length = none) (hvalid : pointValid p = true)
    (hdup : g.state = .tracking → ∀ v, g.vertices.getLast? = some v → samePoint v p = false) :
    ContextOk { g with state := .tracking, vertices := g.vertices ++ [p] } := by
  obtain ⟨-, harmed, htracking, hlen, hclose, hexcl, hvalids, hneigh⟩ := h
  have hlength : (g.vertices ++ [p]).length = g.vertices.length + 1 := by simp
  have hkind : g.kind ≠ .point := by
    intro hk
    rw [hk] at hends
    cases hends
  have hone : g.kind ≠ .chain → g.vertices = [] := by
    intro hk
    have htwo : g.vertices.length + 1 < 2 := by
      rw [hlength] at hends
      cases hkk : g.kind <;> simp_all [commitEnds]
    exact List.length_eq_zero_iff.mp (by omega)
  have hmax : g.vertices.length + 1 ≤ 16 := by
    by_cases hk : g.kind = .chain
    · rw [hk, hlength, commitEnds, Config.vertexMax, ite_eq_left_iff] at hends
      by_contra hgt
      exact nomatch hends (by omega)
    · rw [hone hk]
      decide
  have hlast : ∀ v, g.vertices.getLast? = some v → samePoint v p = false := by
    intro v hv
    cases hs : g.state with
    | idle => exact absurd hs hlive
    | armed => rw [harmed hs] at hv; cases hv
    | tracking => exact hdup hs v hv
  refine ⟨nofun, nofun, fun _ => ⟨by rw [hlength]; omega, hkind, fun hk => by rw [hone hk]; rfl⟩, hlength.trans_le hmax,
    hclose, hexcl, fun v hv => ?_, neighbours_append hneigh hlast⟩
  rcases List.mem_append.mp hv with hv | hv
  · exact hvalids v hv
  · exact List.mem_singleton.mp hv ▸ hvalid

/-- A report in a granted place keeps the bounds of the queue. -/
theorem quiet_reserve_enqueue {s t : State} (h : reserve s = some t) {r : Report} (hr : isTrack r = false) :
    Quiet s (enqueue r t) := by
  obtain ⟨heq, hqueue⟩ := reserve_some h
  have hcomb : enqueue r t = s.withRlt { s.rlt with queue := t.rlt.queue ++ [r] } := by
    rw [enqueue, heq]
    rfl
  rw [hcomb]
  refine quiet_withRlt fun ⟨hlen, hone⟩ => ?_
  have hfilter : (t.rlt.queue.filter isTrack).Sublist (s.rlt.queue.filter isTrack) := by
    rcases hqueue with ⟨hq, -⟩ | ⟨hq, -⟩ <;> rw [hq]
    exact List.eraseP_sublist.filter isTrack
  have hroom : t.rlt.queue.length < 16 := by
    rcases hqueue with ⟨hq, hlt⟩ | ⟨hq, hfull, hany⟩ <;> rw [hq]
    · exact hlt
    · obtain ⟨q, hmem, hq⟩ := List.any_eq_true.mp hany
      rw [List.length_eraseP_of_mem hmem hq]
      omega
  constructor
  · show (t.rlt.queue ++ [r]).length ≤ 16
    rw [List.length_append, List.length_singleton]
    omega
  · show ((t.rlt.queue ++ [r]).filter isTrack).length ≤ 1
    rw [List.filter_append, List.filter_singleton, hr]
    simpa using hfilter.length_le.trans hone

/-- A granted place changes the queue alone. -/
theorem reserve_frame {s t : State} (h : reserve s = some t) : t.gcu = s.gcu ∧ shownResult t = shownResult s := by
  obtain ⟨heq, -⟩ := reserve_some h
  constructor <;> rw [heq] <;> rfl

theorem quiet_acceptCommit {s t : State} (h : reserve s = some t) (origin : Origin) (tag : Byte)
    (hlive : s.gcu.live.state ≠ .idle) (hfault : commitFault s.gcu.live (shownResult s) = none) :
    Quiet s (acceptCommit origin tag t) := by
  obtain ⟨hvalid, -, hdup⟩ := commitFault_none hfault
  obtain ⟨hgcu, hshown⟩ := reserve_frame h
  unfold acceptCommit
  rw [hgcu, hshown]
  dsimp only
  have hfilled := quiet_reserve_enqueue h
    (r := ⟨originTag origin tag, .committed origin (s.gcu.live.epoch + 1) s.gcu.live.vertices.length (shownResult s)⟩) rfl
  split
  next hends =>
    refine (quiet_searchRequest _).after ((quiet_changeLive (fun hs => ?_) (fun hs => ?_)).after hfilled)
    · have hctx : ContextOk t.gcu.live := hs.1
      rw [hgcu] at hctx
      exact contextOk_commit hctx hlive hends hvalid hdup
    · have hresult : ResultOk (shownResult t) := shownResult_ok hs
      have hverts : VerticesOk t.gcu.live := hs.2.2.2.2.1
      rw [hshown] at hresult
      rw [hgcu] at hverts
      intro v hv
      rcases List.mem_append.mp hv with hv | hv
      · exact hverts v hv
      · exact List.mem_singleton.mp hv ▸ hresult.2
  next =>
    exact (quiet_searchRequest _).after ((quiet_changeLive_idle _ _).after ((quiet_offer rfl _).after hfilled))

end Sys2Proof.Machine

/-! Commits, presses, context slots and the pointer unit, each quiet. -/

namespace Sys2Proof.Machine

theorem quiet_refusalNotice (s : State) : Quiet s (refusalNotice s) := quiet_withOvc (.inl rfl) id

theorem quiet_commitLive {s : State} (hlive : s.gcu.live.state ≠ .idle) (origin : Origin) (tag : Byte) :
    Quiet s (commitLive origin tag s) := by
  unfold commitLive
  split
  next =>
    unfold tellRefusal
    split
    · exact quiet_offer rfl s
    · exact quiet_refuseClass ..
  next hfault =>
    unfold commitWithSlot
    split
    next s1 hplace => exact quiet_acceptCommit hplace origin tag hlive hfault
    next =>
      split
      · exact quiet_refusalNotice s
      · exact quiet_refuseClass ..

theorem quiet_takeCommit (tag : Byte) (s : State) : Quiet s (takeCommit tag s) := by
  unfold takeCommit
  split
  next => exact quiet_refuseClass ..
  next hlive => exact quiet_commitLive hlive ..

theorem quiet_liveEnded {tag : Byte} {body : ReportBody} (h : isTrack ⟨tag, body⟩ = false) (s : State) :
    Quiet s (liveEnded tag body s) := by
  rw [← searchRequest_changeLive_idleGesture]
  exact (quiet_searchRequest _).after ((quiet_changeLive_idle _ _).after (quiet_offer h s))

theorem quiet_cancelLive (origin : Origin) (tag : Byte) (s : State) : Quiet s (cancelLive origin tag s) := by
  rw [cancelLive_eq]
  exact quiet_liveEnded rfl s

theorem quiet_endLive (origin : Origin) (tag : Byte) (s : State) : Quiet s (endLive origin tag s) := by
  by_cases h : ChainFinishable s.gcu.live
  · rw [endLive_of_finishable h]
    exact quiet_liveEnded rfl s
  · rw [endLive_of_not_finishable h]
    exact quiet_cancelLive ..

theorem quiet_takeEnd (tag : Byte) (s : State) : Quiet s (takeEnd tag s) := by
  unfold takeEnd
  split
  · exact quiet_refuseClass ..
  · exact quiet_endLive ..

theorem quiet_takeCancel (tag : Byte) (s : State) : Quiet s (takeCancel tag s) := by
  unfold takeCancel
  split
  · exact quiet_refuseClass ..
  · exact quiet_cancelLive ..

theorem quiet_takePress (b : Fin 4) (a : Action) (s : State) : Quiet s (takePress b a s) := by
  have hreport : Quiet s (buttonReport b a s) := quiet_offer rfl s
  cases a with
  | none => exact .refl s
  | report => exact hreport
  | commit =>
    rw [takePress]
    split
    next => exact hreport
    next hlive => exact quiet_commitLive hlive ..
  | finish =>
    rw [takePress]
    split
    · exact hreport
    · exact quiet_endLive ..
  | cancel =>
    rw [takePress]
    split
    · exact hreport
    · exact quiet_cancelLive ..

/-! ## Context slots (R133 to R136) and the gesture step of a RESET (R138) -/

theorem quiet_contextReport (tag : Byte) (op : ContextOp) (i : Fin 4) (c : Gesture) (s : State) :
    Quiet s (contextReport tag op i c s) := quiet_offer rfl s

/-- A context moves from its slot to the live gesture. -/
theorem quiet_resumed {s : State} {i : Fin 4} {c : Gesture} (hslot : slotOf s.gcu i = some c) :
    Quiet s (changeLive c (s.withGcu (setSlot s.gcu i none))) := by
  have hkept : Quiet s (changeLive c s) := by
    refine quiet_changeLive (fun hs => (hs.2 i c hslot).1) (fun hs => ?_)
    obtain ⟨-, -, -, -, -, hslots⟩ := hs
    exact hslots i c hslot
  have heq : changeLive c (s.withGcu (setSlot s.gcu i none)) =
      (changeLive c s).withGcu (setSlot (changeLive c s).gcu i none) := by
    fin_cases i <;> rfl
  rw [heq]
  exact hkept.trans (quiet_emptySlot _ i)

theorem quiet_takeContext (op : ContextOp) (tag : Byte) (i : Fin 4) (s : State) : Quiet s (takeContext op tag i s) := by
  cases op with
  | park =>
    rw [takeContext, takePark]
    split
    next => exact quiet_refuseClass ..
    next h =>
      exact (quiet_searchRequest _).after ((quiet_contextReport ..).after ((quiet_changeLive_idle _ _).after
        (quiet_storeLive (fun hidle => h (.inl hidle)) i)))
  | copy =>
    rw [takeContext, takeCopy]
    split
    next => exact quiet_refuseClass ..
    next h => exact (quiet_contextReport ..).after (quiet_storeLive (fun hidle => h (.inl hidle)) i)
  | resume =>
    rw [takeContext, takeResume]
    split
    next => exact quiet_refuseClass ..
    next c hslot =>
      split
      · exact quiet_refuseClass ..
      · exact (quiet_searchRequest _).after ((quiet_contextReport ..).after (quiet_resumed hslot))
  | discard =>
    rw [takeContext, takeDiscard]
    split
    · exact quiet_refuseClass ..
    · exact (quiet_contextReport ..).after (quiet_emptySlot s i)

theorem quiet_resetLive (tag : Byte) (s : State) : Quiet s (resetLive tag s) := by
  unfold resetLive
  dsimp only
  split
  · rfl
  · exact (quiet_changeLive_idle _ _).after (quiet_offer rfl s)

theorem quiet_gestureReset (tag : Byte) (s : State) : Quiet s (gestureReset tag s) := by
  have hempty : ∀ u : State, u.withGcu ⟨u.gcu.live, none, none, none, none⟩ =
      [0, 1, 2, 3].foldl (fun u (i : Fin 4) => u.withGcu (setSlot u.gcu i none)) u := fun u => rfl
  rw [gestureReset, hempty]
  exact (Quiet.foldl quiet_emptySlot _ _).after (quiet_resetLive tag s)

/-! ## The pointer unit (chapter 4) -/

/-- A change of the pointer unit that keeps the mailbox point. -/
theorem quiet_samePoint {s : State} {p : Ptu} (h : p.mailbox.point = s.ptu.mailbox.point) : Quiet s (s.withPtu p) :=
  quiet_withPtu fun hp => h ▸ hp

theorem Quiet.then_samePoint {s t : State} {p : Ptu} (h : Quiet s t) (hp : p.mailbox.point = t.ptu.mailbox.point) :
    Quiet s (t.withPtu p) := h.trans (quiet_samePoint hp)

theorem quiet_place {point : Point} (h : PointOk point) (proximity : Bool) (s : State) :
    Quiet s (place point proximity s) := quiet_withPtu fun _ => h

theorem quiet_placeAbsent (s : State) : Quiet s (placeAbsent s) := quiet_samePoint rfl

theorem calibrate_ok (t : Settings) (countX countY : Nat) : PointOk (calibrate t countX countY) :=
  ⟨computedCoord_ok .., computedCoord_ok ..⟩

theorem quiet_placeFrame (bytes : List Byte) (s : State) : Quiet s (placeFrame bytes s) := by
  unfold placeFrame
  split
  · exact quiet_place (calibrate_ok ..) ..
  · exact quiet_placeAbsent s

theorem quiet_handPresses (levels : BitVec 4) (s : State) : Quiet s (handPresses levels s) :=
  (Quiet.foldl (fun s b => quiet_takePress b _ s) _ _).after (quiet_samePoint rfl)

theorem quiet_acceptFrame (bytes : List Byte) (s : State) : Quiet s (acceptFrame bytes s) :=
  (quiet_handPresses ..).after (((quiet_searchRequest _).after (quiet_placeFrame bytes s)).then_samePoint rfl)

theorem quiet_judgeFrame (bytes : List Byte) (s : State) : Quiet s (judgeFrame bytes s) := by
  unfold judgeFrame
  split
  · split
    · exact quiet_acceptFrame bytes s
    · rfl
  · exact quiet_setTabletErr s

theorem quiet_setReceiver (r : FrameReceiver) (s : State) : Quiet s (setReceiver r s) := quiet_samePoint rfl

theorem quiet_takeTabletByte (b : Byte) (s : State) : Quiet s (takeTabletByte b s) := by
  unfold takeTabletByte
  split
  · rfl
  · split
    · split
      · exact quiet_setReceiver ..
      · rfl
    · split
      · exact (quiet_setReceiver ..).after (quiet_setTabletErr s)
      · split
        · exact quiet_setReceiver ..
        · exact (quiet_judgeFrame ..).after (quiet_setReceiver .hunt s)

theorem quiet_takeFramingError (s : State) : Quiet s (takeFramingError s) := by
  unfold takeFramingError
  split
  · rfl
  · exact ((quiet_setTabletErr _).after (quiet_setReceiver .hunt s)).then_samePoint rfl

theorem quiet_takeTabletFrame (bytes : List Byte) (s : State) : Quiet s (takeTabletFrame bytes s) :=
  Quiet.foldl (fun s b => quiet_takeTabletByte b s) bytes s

theorem quiet_tabletSilence (s : State) : Quiet s (tabletSilence s) := by
  unfold tabletSilence
  split
  · rfl
  · split
    · exact (quiet_searchRequest _).after ((quiet_placeAbsent s).then_samePoint rfl)
    · exact quiet_samePoint rfl

theorem quiet_placePacket (payload : List Byte) (s : State) : Quiet s (placePacket payload s) := by
  unfold placePacket
  split
  · exact quiet_place (storedPoint_ok ..) ..
  · exact quiet_placeAbsent s

theorem quiet_takePointer (tag : Byte) (payload : List Byte) (s : State) : Quiet s (takePointer tag payload s) := by
  unfold takePointer
  split
  · exact quiet_refuseClass ..
  · exact (quiet_handPresses ..).after ((quiet_searchRequest _).after (quiet_placePacket payload s))

theorem quiet_mailboxReset (s : State) : Quiet s (mailboxReset s) := quiet_withPtu fun _ => indefinitePoint_ok

end Sys2Proof.Machine

/-! The settings stay in their ranges (R19, R21): the two passes of a SET, the apply point and the settings step of a RESET. -/

namespace Sys2Proof.Machine

/-! ## Values in range -/

/-- A run of values has one value for each field of the group, each in the field's own range. -/
def InRanges (g : Group) (values : List Int) : Prop :=
  values.length = (groupSpecs g).length ∧
  ∀ (i : Nat) (v : Int) (f : FieldSpec), values[i]? = some v → (groupSpecs g)[i]? = some f → f.lo ≤ v ∧ v ≤ f.hi

theorem valuesOk_iff (g : Group) (values : List Int) :
    ValuesOk g values ↔ InRanges g values ∧
      ∀ d ∈ dependence g, values.getD d.2 0 ≤ dependentMax g (values.getD d.1 0) := by
  have hzip : (∀ e ∈ values.zip (groupSpecs g), e.2.lo ≤ e.1 ∧ e.1 ≤ e.2.hi) ↔
      ∀ (i : Nat) (v : Int) (f : FieldSpec), values[i]? = some v → (groupSpecs g)[i]? = some f →
        f.lo ≤ v ∧ v ≤ f.hi := by
    constructor
    · intro h i v f hv hf
      exact h (v, f) (List.mem_of_getElem? (List.getElem?_zip_eq_some.mpr ⟨hv, hf⟩))
    · intro h e he
      obtain ⟨i, hi⟩ := List.mem_iff_getElem?.mp he
      obtain ⟨hv, hf⟩ := List.getElem?_zip_eq_some.mp hi
      exact h i e.1 e.2 hv hf
  rw [ValuesOk, hzip, InRanges, and_assoc]

/-- Every field of the group has a value. -/
theorem InRanges.exists_value {g : Group} {values : List Int} (h : InRanges g values) {i : Nat} {f : FieldSpec}
    (hf : (groupSpecs g)[i]? = some f) : ∃ v, values[i]? = some v ∧ f.lo ≤ v ∧ v ≤ f.hi := by
  obtain ⟨hi, -⟩ := List.getElem?_eq_some_iff.mp hf
  have hv : values[i]? = some (values[i]'(h.1 ▸ hi)) := List.getElem?_eq_getElem _
  exact ⟨_, hv, h.2 i _ f hv hf⟩

/-- The ranges of R19's table are not empty, and that of a set field is its members'. -/
theorem groupSpecs_range {g : Group} {f : FieldSpec} (hf : f ∈ groupSpecs g) :
    f.lo ≤ f.hi ∧ ∀ bits, f.mask = some bits → f.lo = 0 ∧ f.hi = 2 ^ bits - 1 := by
  have hall : ∀ g, ∀ f ∈ groupSpecs g, f.lo ≤ f.hi ∧ (f.mask = none ∨ f.mask = some 7 ∧ f.lo = 0 ∧ f.hi = 2 ^ 7 - 1 ∨
      f.mask = some 64 ∧ f.lo = 0 ∧ f.hi = 2 ^ 64 - 1) := by
    intro g
    cases g <;> decide
  obtain ⟨hle, hmask⟩ := hall g f hf
  refine ⟨hle, fun bits hbits => ?_⟩
  rcases hmask with h | ⟨h, hrange⟩ | ⟨h, hrange⟩ <;> rw [h] at hbits <;> cases hbits <;> exact hrange

/-- A clamped value lies in its field's range. -/
theorem clampField_range {g : Group} {f : FieldSpec} (hf : f ∈ groupSpecs g) (v : Int) :
    f.lo ≤ clampField f v ∧ clampField f v ≤ f.hi := by
  obtain ⟨hle, hmask⟩ := groupSpecs_range hf
  unfold clampField
  split
  next bits hbits =>
    obtain ⟨hlo, hhi⟩ := hmask bits hbits
    have hpos : (0 : Int) < (2 ^ bits : Nat) := by positivity
    have h1 := Int.emod_nonneg v hpos.ne'
    have h2 := Int.emod_lt_of_pos v hpos
    push_cast at h1 h2 ⊢
    omega
  next => exact ⟨clampInt_ge hle, clampInt_le hle⟩

/-- The dependent field's own range starts at 1 and holds every bound its controlling field can give (R21). -/
theorem dependentMax_range {g : Group} {c d : Nat} (h : dependence g = some (c, d)) :
    c ≠ d ∧ ∃ fc fd, (groupSpecs g)[c]? = some fc ∧ (groupSpecs g)[d]? = some fd ∧ fd.lo = 1 ∧
      ∀ v, fc.lo ≤ v → v ≤ fc.hi → 1 ≤ dependentMax g v ∧ dependentMax g v ≤ fd.hi := by
  cases g <;> cases h <;> refine ⟨by decide, _, _, rfl, rfl, rfl, fun v hlo hhi => ?_⟩ <;>
    simp only [rangeField] at hlo hhi <;> simp only [dependentMax, rangeField, reduceCtorEq, if_true, if_false] <;> omega

/-! ## The passes of a SET (R20, R21) -/

section
variable {g : Group} {cells : List FieldCell} {pairs : List (Byte × Int)}

theorem workingCopy_length (cells : List FieldCell) : (workingCopy cells).length = cells.length := List.length_map _

theorem firstPass_length (specs : List FieldSpec) (placed : List Nat) (work : List Int) :
    (firstPass specs placed work).length = work.length := List.length_mapIdx

/-- The first pass leaves every value in its range. -/
theorem firstPass_inRanges (h : InRanges g (workingCopy cells)) (pairs : List (Byte × Int)) :
    InRanges g (firstPass (groupSpecs g) (placedCodes pairs) (placePairs (workingCopy cells) pairs)) := by
  refine ⟨by rw [firstPass_length, placePairs_length]; exact h.1, fun i v f hv hf => ?_⟩
  rw [firstPass_getElem?, hf] at hv
  obtain ⟨c, hc, rfl⟩ := Option.map_eq_some_iff.mp hv
  cases placedValue pairs i with
  | none => exact h.2 i _ f (by rw [workingCopy_getElem?, hc]; rfl) hf
  | some w => exact clampField_range (List.mem_of_getElem? hf) w

/-- A field that is not placed is, after the first pass, as the working copy has it. -/
theorem firstPass_getElem?_of_not_placed {i : Nat} (hi : (placedCodes pairs).contains i = false) :
    (firstPass (groupSpecs g) (placedCodes pairs) (placePairs (workingCopy cells) pairs))[i]? =
      (workingCopy cells)[i]? := by
  have hnone : placedValue pairs i = none := by
    by_contra hp
    rw [(placedCodes_contains_iff pairs i).mpr hp] at hi
    cases hi
  rw [firstPass_getElem?, hnone, workingCopy_getElem?]

theorem secondPass_length (placed : List Nat) (work : List Int) : (secondPass g placed work).length = work.length := by
  unfold secondPass
  split
  · rfl
  · split
    · exact List.length_set
    · rfl

/-- The second pass keeps the ranges and brings the dependent field under its controlling one, where that does not
already hold of a pair that is not placed. -/
theorem secondPass_ok {placed : List Nat} {work : List Int} (h : InRanges g work)
    (hdep : ∀ c d, dependence g = some (c, d) → placed.contains c = false → placed.contains d = false →
      work.getD d 0 ≤ dependentMax g (work.getD c 0)) : ValuesOk g (secondPass g placed work) := by
  rw [valuesOk_iff]
  unfold secondPass
  cases hd : dependence g with
  | none => exact ⟨h, fun d hd => absurd hd (Option.not_mem_none d)⟩
  | some p =>
    obtain ⟨c, d⟩ := p
    simp only [Option.mem_some_iff, forall_eq']
    cases hplaced : placed.contains c || placed.contains d with
    | false =>
      rw [Bool.or_eq_false_iff] at hplaced
      exact ⟨h, hdep c d hd hplaced.1 hplaced.2⟩
    | true =>
      obtain ⟨hcd, fc, fd, hfc, hfd, hlo, hbounds⟩ := dependentMax_range hd
      obtain ⟨vc, hvc, hcLo, hcHi⟩ := h.exists_value hfc
      obtain ⟨hone, hmax⟩ := hbounds vc hcLo hcHi
      obtain ⟨vd, hvd, -, -⟩ := h.exists_value hfd
      obtain ⟨hdlt, -⟩ := List.getElem?_eq_some_iff.mp hvd
      have hgetc : work.getD c 0 = vc := by rw [List.getD_eq_getElem?_getD, hvc]; rfl
      have hle : clampInt 1 (dependentMax g vc) (work.getD d 0) ≤ dependentMax g vc := clampInt_le hone
      have hge : 1 ≤ clampInt 1 (dependentMax g vc) (work.getD d 0) := clampInt_ge hone
      rw [if_pos rfl, hgetc]
      refine ⟨⟨by rw [List.length_set]; exact h.1, fun i v f hv hf => ?_⟩, ?_⟩
      · by_cases hid : d = i
        · subst hid
          rw [List.getElem?_set_self hdlt] at hv
          obtain rfl : fd = f := Option.some.inj (hfd.symm.trans hf)
          rw [← Option.some.inj hv, hlo]
          exact ⟨hge, hle.trans hmax⟩
        · rw [List.getElem?_set_ne hid] at hv
          exact h.2 i v f hv hf
      · generalize clampInt 1 (dependentMax g vc) (work.getD d 0) = x at hle
        rw [List.getD_eq_getElem?_getD, List.getElem?_set_self hdlt, List.getD_eq_getElem?_getD,
          List.getElem?_set_ne hcd.symm, hvc]
        exact hle

theorem clampedCopy_length (g : Group) (cells : List FieldCell) (pairs : List (Byte × Int)) :
    (clampedCopy g cells pairs).length = cells.length := by
  rw [clampedCopy, secondPass_length, firstPass_length, placePairs_length, workingCopy_length]

/-- A SET whose working copy is in range leaves it in range, the dependent field under its controlling one. -/
theorem clampedCopy_ok (h : ValuesOk g (workingCopy cells)) (pairs : List (Byte × Int)) :
    ValuesOk g (clampedCopy g cells pairs) := by
  obtain ⟨hranges, hdep⟩ := (valuesOk_iff g _).mp h
  refine secondPass_ok (firstPass_inRanges hranges pairs) fun c d hd hc hdp => ?_
  have := hdep (c, d) hd
  simpa only [List.getD_eq_getElem?_getD, firstPass_getElem?_of_not_placed hc, firstPass_getElem?_of_not_placed hdp]
    using this

/-- After a SET the working copy is what the two passes give, written fields and all. -/
theorem workingCopy_writeGroup (g : Group) (locked : Bool) (pairs : List (Byte × Int)) (cells : List FieldCell) :
    workingCopy (writeGroup g locked pairs cells) = clampedCopy g cells pairs := by
  apply List.ext_getElem?
  intro i
  rw [workingCopy_getElem?, writeGroup_getElem?, Option.map_map]
  cases hc : cells[i]? with
  | none =>
    have hlen : (clampedCopy g cells pairs).length ≤ i := by
      rw [clampedCopy_length]
      exact List.getElem?_eq_none_iff.mp hc
    rw [List.getElem?_eq_none_iff.mpr hlen]
    rfl
  | some c =>
    obtain ⟨hi, -⟩ := List.getElem?_eq_some_iff.mp hc
    obtain ⟨v, hv⟩ : ∃ v, (clampedCopy g cells pairs)[i]? = some v :=
      ⟨_, List.getElem?_eq_getElem (by rw [clampedCopy_length]; exact hi)⟩
    have hget : (clampedCopy g cells pairs).getD i 0 = v := by rw [List.getD_eq_getElem?_getD, hv]; rfl
    rw [hv, Option.map_some, Function.comp]
    congr 1
    cases hw : isWritten g cells pairs i with
    | true =>
      rw [if_pos rfl, hget]
      cases locked <;> rfl
    | false =>
      have hsame : (clampedCopy g cells pairs)[i]? = (workingCopy cells)[i]? := by
        by_contra hne
        simp [isWritten, hne] at hw
      rw [hv, workingCopy_getElem?, hc] at hsame
      simpa using (Option.some.inj hsame).symm

/-- While LOCKED a SET leaves the current values (R22). -/
theorem current_writeGroup_locked (g : Group) (pairs : List (Byte × Int)) (cells : List FieldCell) :
    (writeGroup g true pairs cells).map FieldCell.current = cells.map FieldCell.current := by
  apply List.ext_getElem?
  intro i
  rw [List.getElem?_map, writeGroup_getElem?, List.getElem?_map, Option.map_map]
  congr 1
  funext c
  simp only [Function.comp, writeCell]
  split <;> rfl

/-- With nothing pending the working copy is the current values. -/
theorem workingCopy_eq_current (h : ∀ c ∈ cells, c.pending = none) : workingCopy cells = cells.map FieldCell.current :=
  List.map_congr_left fun c hc => by rw [h c hc]; rfl

/-- Outside LOCKED a SET leaves nothing pending that was not. -/
theorem writeGroup_unlocked_pending (h : ∀ c ∈ cells, c.pending = none) :
    ∀ c ∈ writeGroup g false pairs cells, c.pending = none := by
  intro c hc
  obtain ⟨i, hi⟩ := List.mem_iff_getElem?.mp hc
  rw [writeGroup_getElem?] at hi
  obtain ⟨d, hd, rfl⟩ := Option.map_eq_some_iff.mp hi
  split
  · rfl
  · exact h d (List.mem_of_getElem? hd)

end

theorem settingsPending_eq_false_iff (t : Settings) :
    settingsPending t = false ↔ ∀ g, ∀ c ∈ groupCells t g, c.pending = none := by
  have hall : ∀ g, g ∈ allGroups := by intro g; cases g <;> decide
  rw [← Bool.not_eq_true, settingsPending, List.any_eq_true]
  constructor
  · intro h g c hc
    by_contra hp
    exact h ⟨g, hall g, List.any_eq_true.mpr ⟨c, hc, Option.isSome_iff_ne_none.mpr hp⟩⟩
  · rintro h ⟨g, -, hg⟩
    obtain ⟨c, hc, hp⟩ := List.any_eq_true.mp hg
    rw [h g c hc] at hp
    cases hp

theorem mem_allGroups (g : Group) : g ∈ allGroups := by cases g <;> decide

/-! ## Changes of the settings -/

/-- The blink period of settings in range is positive. -/
theorem blinkPeriod_pos {t : Settings} (h : GroupOk t .blink) : 0 < blinkPeriod t := by
  obtain ⟨hranges, -⟩ := (valuesOk_iff _ _).mp h.1
  obtain ⟨v, hv, hlo, -⟩ := hranges.exists_value (i := 0) (f := rangeField 2 255 32) rfl
  rw [List.getElem?_map] at hv
  obtain ⟨c, hc, rfl⟩ := Option.map_eq_some_iff.mp hv
  have hcurrent : current t .blink 0 = c.current := by
    rw [current, List.getD_eq_getElem?_getD, hc]
    rfl
  rw [blinkPeriod, hcurrent]
  simp only [rangeField] at hlo
  omega

/-- New settings with their notices: in range, nothing pending outside LOCKED, and the blink phase reset with the blink
period. -/
theorem quiet_configure {s : State} {t : Settings} {n : Notices} (hok : SettingsOk s → ∀ g, GroupOk t g)
    (hpending : SettingsOk s → s.vpl.lock ≠ .locked → settingsPending t = false)
    (hperiod : n.period = false → current t .blink 0 = current s.pds.settings .blink 0) :
    Quiet s (giveNotices n (setSettings t s)) := by
  rw [giveNotices_eq]
  refine ⟨⟨⟨id, id, id, ?_, ?_⟩, ?_⟩, rfl⟩
  · refine fun hs => (tablesOk_iff _).mpr (TbsOk.of_eq ((tablesOk_iff s).mp hs) ?_ ?_ ?_ ?_)
    · cases n.interval <;> exact bankOf_same rfl rfl
    all_goals cases n.interval <;> rfl
  · rintro ⟨hmail, hpub, hlatch, hrest⟩
    refine ⟨?_, hpub, ?_, hrest⟩
    · show PointOk (if n.source then sourceChanged t s.ptu else s.ptu).mailbox.point
      split
      · rw [sourceChanged]
        split <;> exact hmail
      · exact hmail
    · show ResultOk (if n.period then { s.ovc with phase := 0, restart := true } else s.ovc).latch.shown
      split <;> exact hlatch
  · intro hs
    refine ⟨fun g _ => hok hs g, hpending hs, ?_⟩
    show (if n.period then { s.ovc with phase := 0, restart := true } else s.ovc).phase < blinkPeriod t
    cases hn : n.period with
    | true => exact blinkPeriod_pos (hok hs .blink)
    | false =>
      rw [blinkPeriod, hperiod hn]
      exact hs.2.2

/-- The settings after a SET: those of the group written, all others as they were. -/
theorem groupOk_writeGroup {t : Settings} {g : Group} {locked : Bool} (hok : ∀ h, GroupOk t h)
    (hpending : locked = false → settingsPending t = false) (pairs : List (Byte × Int)) (h : Group) :
    GroupOk (setGroupCells t g (writeGroup g locked pairs (groupCells t g))) h := by
  by_cases hg : h = g
  · subst hg
    have hcopy := clampedCopy_ok (hok h).2 pairs
    rw [GroupOk, groupCells_setGroupCells_same, workingCopy_writeGroup]
    refine ⟨?_, hcopy⟩
    cases locked with
    | true =>
      rw [current_writeGroup_locked]
      exact (hok h).1
    | false =>
      have hnone := (settingsPending_eq_false_iff t).mp (hpending rfl) h
      rw [← workingCopy_eq_current (writeGroup_unlocked_pending hnone), workingCopy_writeGroup]
      exact hcopy
  · rw [GroupOk, groupCells_setGroupCells_other hg]
    exact hok h

theorem settingsPending_writeGroup {t : Settings} {g : Group} (h : settingsPending t = false)
    (pairs : List (Byte × Int)) :
    settingsPending (setGroupCells t g (writeGroup g false pairs (groupCells t g))) = false := by
  rw [settingsPending_eq_false_iff] at h ⊢
  intro k
  by_cases hk : k = g
  · subst hk
    rw [groupCells_setGroupCells_same]
    exact writeGroup_unlocked_pending (h k)
  · rw [groupCells_setGroupCells_other hk]
    exact h k

/-- A field's current value is that of its cell. -/
theorem current_congr {t u : Settings} {g : Group} {i : Nat}
    (h : (groupCells t g)[i]?.map FieldCell.current = (groupCells u g)[i]?.map FieldCell.current) :
    current t g i = current u g i := by
  have hmap (o : Option FieldCell) : (o.getD ⟨0, none⟩).current = (o.map FieldCell.current).getD 0 := by cases o <;> rfl
  rw [current, current, List.getD_eq_getElem?_getD, List.getD_eq_getElem?_getD, hmap, hmap, h]

/-- A SET that does not write the BLINK period leaves its current value, and while LOCKED any SET does. -/
theorem current_period_writeGroup {g : Group} {locked : Bool} {pairs : List (Byte × Int)} {t : Settings}
    (h : locked = true ∨ (g == .blink && isWritten g (groupCells t g) pairs 0) = false) :
    current (setGroupCells t g (writeGroup g locked pairs (groupCells t g))) .blink 0 = current t .blink 0 := by
  by_cases hg : Group.blink = g
  · subst hg
    refine current_congr ?_
    rw [groupCells_setGroupCells_same]
    rcases h with rfl | hnot
    · rw [← List.getElem?_map, current_writeGroup_locked, List.getElem?_map]
    · have hwritten : isWritten .blink (groupCells t .blink) pairs 0 = false := by simpa using hnot
      rw [writeGroup_getElem?, Option.map_map, hwritten]
      rfl
  · exact current_congr (by rw [groupCells_setGroupCells_other hg])

theorem quiet_acceptSet (g : Group) (pairs : List (Byte × Int)) (s : State) : Quiet s (acceptSet g pairs s) := by
  have hall : SettingsOk s → ∀ h, GroupOk s.pds.settings h := fun hs h => hs.1 h (mem_allGroups h)
  unfold acceptSet
  dsimp only
  cases hlock : isLocked s with
  | true =>
    have hlocked : s.vpl.lock = .locked := by simpa [isLocked] using hlock
    exact quiet_configure (n := ⟨false, false, false, false⟩)
      (fun hs => groupOk_writeGroup (locked := true) (hall hs) (fun h => nomatch h) pairs)
      (fun _ hne => absurd hlocked hne) (fun _ => current_period_writeGroup (.inl rfl))
  | false =>
    have hne : s.vpl.lock ≠ .locked := by simpa [isLocked] using hlock
    exact (quiet_requestIf _ _).after (quiet_configure
      (fun hs => groupOk_writeGroup (hall hs) (fun _ => hs.2.1 hne) pairs)
      (fun hs _ => settingsPending_writeGroup (hs.2.1 hne) pairs) (fun hn => current_period_writeGroup (.inr hn)))

theorem quiet_takeSet (tag group : Byte) (pairs : List (Byte × Int)) (s : State) :
    Quiet s (takeSet tag group pairs s) := by
  unfold takeSet
  split
  · exact quiet_refuseClass ..
  · split
    · exact quiet_acceptSet ..
    · exact quiet_refuseClass ..

/-! ## The apply point (R22) and the settings step of a RESET (R30) -/

theorem workingCopy_applyCell (cells : List FieldCell) : workingCopy (cells.map applyCell) = workingCopy cells := by
  rw [workingCopy, List.map_map]
  rfl

/-- The values that become current are those of the working copies, which are in range. -/
theorem groupOk_applySettings {t : Settings} {g : Group} (h : GroupOk t g) : GroupOk (applySettings t) g := by
  have hcurrent : ((groupCells t g).map applyCell).map FieldCell.current = workingCopy (groupCells t g) := by
    rw [List.map_map]
    rfl
  rw [GroupOk, groupCells_applySettings, hcurrent, workingCopy_applyCell]
  exact ⟨h.2, h.2⟩

theorem current_period_applySettings {t : Settings} (h : fieldPending t .blink 0 = false) :
    current (applySettings t) .blink 0 = current t .blink 0 := by
  refine current_congr ?_
  rw [fieldPending, List.getD_eq_getElem?_getD] at h
  rw [groupCells_applySettings, List.getElem?_map, Option.map_map]
  cases hc : (groupCells t .blink)[0]? with
  | none => rfl
  | some c =>
    rw [hc] at h
    have hnone : c.pending = none := by simpa using h
    simp [applyCell, hnone]

theorem quiet_applyPending (s : State) : Quiet s (applyPending s) :=
  quiet_configure (fun hs g => groupOk_applySettings (hs.1 g (mem_allGroups g)))
    (fun _ _ => settingsPending_applySettings _) current_period_applySettings

/-- The settings at reset are in range, nothing pending. -/
theorem groupOk_resetSettings (g : Group) : GroupOk resetSettings g := by
  have hboth : ValuesOk g ((groupCells resetSettings g).map FieldCell.current) := by cases g <;> decide
  exact ⟨hboth, by cases g <;> exact hboth⟩

theorem settingsPending_resetSettings : settingsPending resetSettings = false := by decide

theorem quiet_settingsReset (s : State) : Quiet s (settingsReset s) :=
  quiet_configure (fun _ => groupOk_resetSettings) (fun _ _ => settingsPending_resetSettings) nofun

theorem quiet_applyPoint (s : State) : Quiet s (applyPoint s) :=
  (quiet_requestIf _ _).after ((quiet_completeFence _).after ((quiet_commitStaged _).after
    ((quiet_applyMark _).after (quiet_applyPending s))))

end Sys2Proof.Machine

/-! Every packet, tablet event, completion and transmission is quiet: so they keep the invariants, and leave the video path
as it is. -/

namespace Sys2Proof.Machine

/-! ## READ, ECHO and SYNC -/

theorem quiet_readStatus (tag : Byte) (s : State) : Quiet s (readStatus tag s) := by
  unfold readStatus
  dsimp only
  split
  next => exact quiet_noteDrop s
  next hroom =>
    rw [queueFull_eq] at hroom
    exact (quiet_clearSticky _).after (quiet_enqueue (by simpa using hroom) fun h : false = true => nomatch h)

theorem quiet_readGroup (tag group : Byte) (s : State) : Quiet s (readGroup tag group s) := by
  unfold readGroup
  split
  · exact quiet_offer rfl s
  · split
    · exact quiet_offer rfl s
    · split
      · exact quiet_readStatus tag s
      · exact quiet_refuseClass ..

theorem quiet_takeSync (tag : Byte) (s : State) : Quiet s (takeSync tag s) := by
  unfold takeSync
  split
  · split
    · exact quiet_withPds rfl
    · exact quiet_refuseClass ..
  · exact quiet_offer rfl s

/-! ## RESET (R30) -/

theorem quiet_fenceAfterReset (s : State) : Quiet s (fenceAfterReset s) := by
  unfold fenceAfterReset
  split
  · rfl
  · exact quiet_completeFence s

theorem quiet_finishReset (tag : Byte) (scope : Scope) (s : State) : Quiet s (finishReset tag scope s) :=
  (quiet_offer rfl _).after (quiet_searchRequest s)

theorem quiet_resetScopeGesture (tag : Byte) (s : State) : Quiet s (resetScopeGesture tag s) :=
  (quiet_finishReset ..).after ((quiet_fenceAfterReset _).after (quiet_gestureReset tag s))

theorem quiet_resetScopeTables (tag : Byte) (s : State) : Quiet s (resetScopeTables tag s) :=
  (quiet_finishReset ..).after ((quiet_fenceAfterReset _).after (quiet_tablesReset s))

theorem quiet_resetScopeSettings (tag : Byte) (s : State) : Quiet s (resetScopeSettings tag s) :=
  (quiet_finishReset ..).after ((quiet_fenceAfterReset _).after (quiet_settingsReset s))

theorem quiet_flushQueue (s : State) : Quiet s (flushQueue s) := quiet_queue_sublist (List.nil_sublist _)

theorem quiet_dropFence (s : State) : Quiet s (dropFence s) := quiet_withPds rfl

theorem quiet_resetScopeAll (tag : Byte) (s : State) : Quiet s (resetScopeAll tag s) :=
  (quiet_finishReset ..).after ((quiet_dropFence _).after ((quiet_mailboxReset _).after ((quiet_flushQueue _).after
    ((quiet_settingsReset _).after ((quiet_tablesReset _).after (quiet_gestureReset tag s))))))

/-! ## Packets (R14 to R17) -/

theorem quiet_takeOwned (c : PacketClass) (tag : Byte) (payload : List Byte) (s : State) :
    Quiet s (takeOwned c tag payload s) := by
  cases c with
  | set => exact quiet_takeSet ..
  | read => exact quiet_readGroup ..
  | loadBegin => exact quiet_takeLoadBegin ..
  | loadData => exact quiet_takeLoadData ..
  | loadEnd => exact quiet_takeLoadEnd ..
  | activate => exact quiet_takeActivate ..
  | verify => exact quiet_takeVerify ..
  | gesture => exact quiet_takeGesture ..
  | commit => exact quiet_takeCommit ..
  | endGesture => exact quiet_takeEnd ..
  | cancel => exact quiet_takeCancel ..
  | context => exact quiet_takeContext ..
  | pointer => exact quiet_takePointer ..
  | sync => exact quiet_takeSync ..
  | echo => exact quiet_offer rfl s
  | reset =>
    rw [takeOwned]
    split
    · exact quiet_refuseClass ..
    · exact quiet_resetScopeGesture tag s
    · exact quiet_resetScopeTables tag s
    · exact quiet_resetScopeSettings tag s
    · exact quiet_resetScopeAll tag s

theorem quiet_takeClass (c : PacketClass) (tag : Byte) (payload : List Byte) (s : State) :
    Quiet s (takeClass c tag payload s) := by
  unfold takeClass
  split
  · exact quiet_takeOwned ..
  · exact quiet_refuseClass ..

theorem quiet_takePacket (cls tag : Byte) (payload : List Byte) (s : State) :
    Quiet s (takePacket cls tag payload s) := by
  unfold takePacket
  split
  · exact quiet_refuse ..
  · exact quiet_takeClass ..

theorem quiet_checkError (s : State) : Quiet s (checkError s) := quiet_refuse ..

theorem quiet_takeControlByte (b : Byte) (s : State) : Quiet s (takeControlByte b s) := by
  unfold takeControlByte
  split
  · split
    · exact quiet_setReceive ..
    · rfl
  · exact quiet_setReceive ..
  · split
    · exact quiet_setReceive ..
    · exact (quiet_checkError _).after (quiet_setReceive .hunt s)
  · exact quiet_setReceive ..
  · exact quiet_setReceive ..
  · unfold judgePacket
    dsimp only
    split
    · exact (quiet_takePacket ..).after (quiet_setReceive .hunt s)
    · exact (quiet_checkError _).after (quiet_setReceive .hunt s)

theorem quiet_takeControlBytes (bytes : List Byte) (s : State) : Quiet s (takeControlBytes bytes s) :=
  Quiet.foldl (fun s b => quiet_takeControlByte b s) bytes s

/-! ## Commands -/

theorem quiet_tryTransmit (hold : Bool) (s : State) : Quiet s (s.withRlt (tryTransmit hold s.rlt)) := by
  refine quiet_queue_sublist ?_
  unfold tryTransmit
  split
  next r rest _ hqueue =>
    show rest.Sublist s.rlt.queue
    rw [hqueue]
    exact List.sublist_cons_self r rest
  next => exact List.Sublist.refl _

theorem quiet_endTransmission (s : State) : Quiet s (s.withRlt { s.rlt with transmission := none }) :=
  quiet_queue_sublist (List.Sublist.refl _)

theorem quiet_lineReturnsHigh (s : State) : Quiet s (lineReturnsHigh s) := quiet_samePoint rfl

theorem quiet_whileRunning {f : State → State} (hf : ∀ s, Quiet s (f s)) {s t : State}
    (h : whileRunning f s = .next t) : Quiet s t := by
  cases h
  split
  · rfl
  · exact hf s

/-- Every command but the input cycles, power-on, the edges of the pin and the frame-start silence is quiet. -/
theorem quiet_exec {c : Instr} {s t : State} (hvideo : isVideo c = false) (hpower : isPowerOrPin c = false)
    (hsilence : c ≠ .lockSilenceExpiry) (h : exec c s = .next t) : Quiet s t := by
  cases c with
  | powerOn _ | resetPinAssert | resetPinRelease _ => cases hpower
  | controlByteCycle _ _ _ | vcxInActiveVideo _ _ _ | pixelCycle _ _ _ | lineEnd _ _ _ | frameStart _ _ _ _ =>
    cases hvideo
  | lockSilenceExpiry => exact absurd rfl hsilence
  | packetUnknownClass cls tag payload => exact quiet_whileRunning (quiet_takePacket cls tag payload) h
  | set tag payload => exact quiet_whileRunning (quiet_takeClass .set tag payload) h
  | read tag payload => exact quiet_whileRunning (quiet_takeClass .read tag payload) h
  | readIdentity tag | readStatus tag => exact quiet_whileRunning (quiet_takeClass .read tag _) h
  | loadBegin tag payload => exact quiet_whileRunning (quiet_takeClass .loadBegin tag payload) h
  | loadData tag payload => exact quiet_whileRunning (quiet_takeClass .loadData tag payload) h
  | loadEnd tag payload => exact quiet_whileRunning (quiet_takeClass .loadEnd tag payload) h
  | buildComplete bank => exact quiet_whileRunning (quiet_completeBuild bank) h
  | activate tag payload => exact quiet_whileRunning (quiet_takeClass .activate tag payload) h
  | verify tag payload => exact quiet_whileRunning (quiet_takeClass .verify tag payload) h
  | verifyIntervalExpiry => exact quiet_whileRunning quiet_intervalEvent h
  | verifyComplete upset => exact quiet_whileRunning (quiet_completeVerify upset) h
  | gesture tag payload => exact quiet_whileRunning (quiet_takeClass .gesture tag payload) h
  | commit tag payload => exact quiet_whileRunning (quiet_takeClass .commit tag payload) h
  | endGesture tag payload => exact quiet_whileRunning (quiet_takeClass .endGesture tag payload) h
  | cancel tag payload => exact quiet_whileRunning (quiet_takeClass .cancel tag payload) h
  | park tag i => exact quiet_whileRunning (quiet_takeContext .park tag i) h
  | copy tag i => exact quiet_whileRunning (quiet_takeContext .copy tag i) h
  | resume tag i => exact quiet_whileRunning (quiet_takeContext .resume tag i) h
  | discard tag i => exact quiet_whileRunning (quiet_takeContext .discard tag i) h
  | pointer tag payload => exact quiet_whileRunning (quiet_takeClass .pointer tag payload) h
  | sync tag payload => exact quiet_whileRunning (quiet_takeClass .sync tag payload) h
  | echo tag payload => exact quiet_whileRunning (quiet_takeClass .echo tag payload) h
  | resetGesture tag => exact quiet_whileRunning (quiet_resetScopeGesture tag) h
  | resetTables tag => exact quiet_whileRunning (quiet_resetScopeTables tag) h
  | resetSettings tag => exact quiet_whileRunning (quiet_resetScopeSettings tag) h
  | resetAll tag => exact quiet_whileRunning (quiet_resetScopeAll tag) h
  | tabletByte b => exact quiet_whileRunning (quiet_takeTabletByte b) h
  | tabletFramingError => exact quiet_whileRunning quiet_takeFramingError h
  | tabletFrame _ _ _ _ _ _ _ _ => exact quiet_whileRunning (quiet_takeTabletFrame _) h
  | tabletSilenceExpiry => exact quiet_whileRunning quiet_tabletSilence h
  | searchPublish => exact quiet_whileRunning quiet_publish h
  | reportTxStart hold => exact quiet_whileRunning (quiet_tryTransmit hold) h
  | reportTxEnd => exact quiet_whileRunning quiet_endTransmission h
  | tabletLineReturnHigh => exact quiet_whileRunning quiet_lineReturnsHigh h

/-- Settles O13: such a command is quiet. -/
theorem onlyVideoEventsChangeTheVideoPath : Obligations.OnlyVideoEventsChangeTheVideoPath := by
  intro c s t hvideo hpower hsilence h
  exact (quiet_exec hvideo hpower hsilence h).vpl

end Sys2Proof.Machine

/-! Input cycles, the frame-start silence, power and pin keep the invariants; so every step does. -/

namespace Sys2Proof.Machine

/-! ## Changes of the video path -/

section
variable {s : State} {v : Vpl}

theorem keptLoosely_withVpl (hpath : v.path.length ≤ s.vpl.path.length) : KeptLoosely s (s.withVpl v) :=
  ⟨id, fun h => hpath.trans h, id, id, id⟩

/-- The video path may change while the lock machine does not leave LOCKED and the delay path keeps its bound. -/
theorem kept_withVpl (hpath : PathOk s → v.path.length ≤ 2624) (hlock : s.vpl.lock = .locked → v.lock = .locked) :
    Kept s (s.withVpl v) :=
  ⟨⟨id, hpath, id, id, id⟩, fun ⟨hgroups, hwaits, hphase⟩ => ⟨hgroups, fun h => hwaits fun hs => h (hlock hs), hphase⟩⟩

/-- A change of the video path that is not the lock machine's nor the delay path's. -/
theorem kept_withVpl_same (hpath : v.path = s.vpl.path) (hlock : v.lock = s.vpl.lock) : Kept s (s.withVpl v) :=
  kept_withVpl (fun h => hpath ▸ h) fun h => hlock.trans h

end

/-- A change of the video path after an event, that is not the lock machine's nor the delay path's. -/
theorem Kept.then_vpl {s t : State} {v : Vpl} (h : Kept s t) (hpath : v.path = t.vpl.path)
    (hlock : v.lock = t.vpl.lock) : Kept s (t.withVpl v) := h.trans (kept_withVpl_same hpath hlock)

theorem Kept.of_eq {s t : State} (h : s = t) : Kept s t := h ▸ (Quiet.refl s).toKept

theorem Kept.after {s t u : State} (k : Kept t u) (h : Kept s t) : Kept s u := h.trans k

/-! ## Lock losses (R9, R10, R12) -/

/-- The apply point makes the settings meet their law whatever waited. -/
theorem settingsOk_applyPoint {s : State} (hgroups : ∀ g ∈ allGroups, GroupOk s.pds.settings g)
    (hphase : s.ovc.phase < blinkPeriod s.pds.settings) : SettingsOk (applyPoint s) := by
  obtain ⟨-, ⟨hnone, -⟩, -, hovc, hpds, -⟩ := applyPoint_spec s
  have hsettings : (applyPoint s).pds.settings = applySettings s.pds.settings := by rw [hpds]
  have hafter : ∀ g ∈ allGroups, GroupOk (applyPoint s).pds.settings g := fun g hg => by
    rw [hsettings]
    exact groupOk_applySettings (hgroups g hg)
  refine ⟨hafter, fun _ => hnone, ?_⟩
  rw [hovc]
  show (if fieldPending s.pds.settings .blink 0 then 0 else s.ovc.phase) < _
  split
  next => exact blinkPeriod_pos (hafter .blink (mem_allGroups _))
  next hnot => rwa [hsettings, blinkPeriod, current_period_applySettings (by simpa using hnot)]

theorem quiet_composerLockLoss (s : State) : Quiet s (composerLockLoss s) := quiet_withOvc (.inl rfl) id

/-- A lock loss keeps every invariant: what waited outside LOCKED becomes current in it. -/
theorem kept_lockLoss {s : State} {v : Vpl} (hpath : v.path.length ≤ s.vpl.path.length) {b : ReportBody}
    (hb : isTrack ⟨0, b⟩ = false) : Kept s (lockLoss (offer 0 b (s.withVpl v))) := by
  have htold : KeptLoosely s (offer 0 b (s.withVpl v)) :=
    (keptLoosely_withVpl hpath).trans (quiet_offer hb _).toKeptLoosely
  refine ⟨htold.trans ((quiet_composerLockLoss _).after (quiet_applyPoint _)).toKeptLoosely, ?_⟩
  rintro ⟨hgroups, -, hphase⟩
  exact (quiet_composerLockLoss _).settings (settingsOk_applyPoint (by simpa using hgroups) (by simpa using hphase))

theorem restoreNewest_length (n : Nat) (path : List PathCycle) : (restoreNewest n path).length = path.length :=
  List.length_mapIdx

theorem kept_lockFault (fault : LockFault) (line restore : Nat) (s : State) :
    Kept s (lockFault fault line restore s) := kept_lockLoss (restoreNewest_length ..).le rfl

/-! ## Lines and frames (R5 to R11) -/

theorem quiet_activeEnd (s : State) : Quiet s (activeEnd s) :=
  (quiet_countActiveEnd _).after (quiet_withOvc (.inl rfl) id)

theorem quiet_blinkStep (s : State) : Quiet s (blinkStep s) := by
  unfold blinkStep
  split
  · exact quiet_withOvc (.inl rfl) id
  · exact quiet_withOvc (.inl rfl) fun h => Nat.mod_lt _ (Nat.zero_lt_of_lt h)

theorem quiet_takeLatch (s : State) : Quiet s (takeLatch s) := quiet_withOvc (.inr rfl) id

theorem kept_activeStart (s : State) : Kept s (activeStart s) := by
  have hawait : Kept s (s.withVpl { s.vpl with awaitActive := false }) := kept_withVpl_same rfl rfl
  unfold activeStart
  dsimp only
  split
  · exact Kept.then_vpl (((quiet_takeLatch _).after ((quiet_blinkStep _).after (quiet_applyPoint _))).toKept.after
      hawait) rfl rfl
  · exact (quiet_blinkStep _).toKept.after hawait

/-- The state after the record takes the line under way. -/
def lineEntered (s : State) : State := s.withVpl { s.vpl with record := addLine s.vpl.run s.vpl.record, run := 0 }

theorem closeLine_none {s : State} (hrun : s.vpl.run = 0) : closeLine s = s := if_pos hrun

theorem closeLine_unlocked {s : State} (hrun : s.vpl.run ≠ 0) (hlock : isLocked s = false) :
    closeLine s = lineEntered s := by
  simp only [closeLine, if_neg hrun, hlock, Bool.not_false, if_true]
  rfl

/-- In LOCKED the end of a line is a WIDTH fault, the active end of its frame, or the record's entry alone. -/
theorem closeLine_locked {s : State} (hrun : s.vpl.run ≠ 0) (hlock : isLocked s = true) :
    closeLine s =
      if s.vpl.run < s.vpl.width then lockFault .width s.vpl.record.lines s.vpl.run (lineEntered s)
      else if s.vpl.record.lines + 1 = s.vpl.height then activeEnd (lineEntered s)
      else lineEntered s := by
  simp only [closeLine, if_neg hrun, hlock, Bool.not_true, Bool.false_eq_true, if_false]
  rfl

theorem kept_closeLine (s : State) : Kept s (closeLine s) := by
  have hline : Kept s (lineEntered s) := kept_withVpl_same rfl rfl
  by_cases hrun : s.vpl.run = 0
  · exact .of_eq (closeLine_none hrun).symm
  · cases hlock : isLocked s with
    | false => exact closeLine_unlocked hrun hlock ▸ hline
    | true =>
      rw [closeLine_locked hrun hlock]
      split
      · exact (kept_lockFault ..).after hline
      · split
        · exact (quiet_activeEnd _).toKept.after hline
        · exact hline

theorem kept_pixelCount (s : State) : Kept s (pixelCount s) := by
  have hstart : Kept s (if s.vpl.awaitActive then activeStart s else s) := by
    split
    · exact kept_activeStart s
    · exact .of_eq rfl
  unfold pixelCount
  generalize (if s.vpl.awaitActive then activeStart s else s) = s1 at hstart
  refine Kept.then_vpl ?_ rfl rfl
  split
  · exact (kept_lockFault ..).after hstart
  · split
    · exact (kept_lockFault ..).after hstart
    · exact hstart

theorem kept_judgeSearch {s : State} (h : s.vpl.lock ≠ .locked) : Kept s (judgeSearch s) := by
  unfold judgeSearch
  dsimp only
  split <;> exact kept_withVpl id fun hl => absurd hl h

theorem kept_judgeConfirm {s : State} (h : s.vpl.lock ≠ .locked) : Kept s (judgeConfirm s) := by
  unfold judgeConfirm
  dsimp only
  split
  · exact (quiet_offer rfl _).toKept.after (kept_withVpl id fun _ => rfl)
  · exact kept_judgeSearch h

theorem kept_judgeFrameEnd {was : LockState} {s : State} (h : was ≠ .locked → s.vpl.lock ≠ .locked) :
    Kept s (judgeFrameEnd was s) := by
  unfold judgeFrameEnd
  split
  · exact kept_judgeSearch (h nofun)
  · exact kept_judgeConfirm (h nofun)
  · split
    · exact kept_lockFault ..
    · exact .of_eq rfl
  · exact kept_withVpl id fun hl => absurd hl (h nofun)

/-- Outside LOCKED the end of a line leaves the lock machine. -/
theorem closeLine_lock {s : State} (h : s.vpl.lock ≠ .locked) : (closeLine s).vpl.lock = s.vpl.lock := by
  by_cases hrun : s.vpl.run = 0
  · rw [closeLine_none hrun]
  · rw [closeLine_unlocked hrun (by simpa [isLocked] using h)]
    rfl

theorem kept_beginFrame (s : State) : Kept s (beginFrame s) := kept_withVpl_same rfl rfl

theorem kept_frameStart (s : State) : Kept s (frameStart s) := by
  refine (kept_beginFrame _).after ((kept_judgeFrameEnd fun h => ?_).after (kept_closeLine s))
  rw [closeLine_lock h]
  exact h

/-- The video path after 100 ms without a frame start (R12). -/
def lostVpl (v : Vpl) : Vpl :=
  { v with lock := .lost, candidate := none, record := { v.record with usable := false }, silence := .stopped,
           windowOpen := false }

/-- The lock loss of the silence, on the state whose partial packet is discarded. -/
theorem lockSilence_locked {s : State} {n : Nat} (hrun : s.vpl.silence = .running n) (hlock : isLocked s = true) :
    lockSilence s = lockLoss (offer 0 (.link .lost .silence none 0 s.vpl.width s.vpl.height)
      ((discardPartial s).withVpl (lostVpl s.vpl))) := by
  simp only [lockSilence, hrun, hlock, if_true]
  rfl

theorem lockSilence_unlocked {s : State} {n : Nat} (hrun : s.vpl.silence = .running n) (hlock : isLocked s = false) :
    lockSilence s = discardPartial (s.withVpl (lostVpl s.vpl)) := by
  simp only [lockSilence, hrun, hlock]
  rfl

theorem kept_lockSilence (s : State) : Kept s (lockSilence s) := by
  cases hrun : s.vpl.silence with
  | stopped => exact .of_eq (by simp only [lockSilence, hrun])
  | running n =>
    cases hlock : isLocked s with
    | true =>
      rw [lockSilence_locked hrun hlock]
      exact (kept_lockLoss (v := lostVpl s.vpl) (s := discardPartial s) (Nat.le_refl _) rfl).after
        (quiet_setReceive .hunt s).toKept
    | false =>
      have hne : s.vpl.lock ≠ .locked := by simpa [isLocked] using hlock
      rw [lockSilence_unlocked hrun hlock]
      exact (quiet_setReceive .hunt _).toKept.after (kept_withVpl id fun h => absurd h hne)

/-! ## Input cycles (R1 to R4) -/

theorem kept_cycleEvents (c : VideoIn) (s : State) : Kept s (cycleEvents c s) := by
  unfold cycleEvents
  dsimp only
  have hframe : Kept s (if c.vvs && !s.vpl.prevVvs then frameStart s else if !c.vde then closeLine s else s) := by
    split
    · exact kept_frameStart s
    · split
      · exact kept_closeLine s
      · exact .of_eq rfl
  generalize (if c.vvs && !s.vpl.prevVvs then frameStart s else if !c.vde then closeLine s else s) = s1 at hframe
  have hpixel : Kept s (if c.vde then pixelCount s1 else s1) := by
    split
    · exact (kept_pixelCount s1).after hframe
    · exact hframe
  split
  · exact (quiet_setLinkErr _).toKept.after hpixel
  · exact hpixel

/-- A cycle that enters the delay path keeps its bound. -/
theorem pushCycle_path_length {v : Vpl} (h : v.path.length ≤ 2624) (c : PathCycle) :
    (pushCycle c v).path.length ≤ 2624 := by
  unfold pushCycle Config.pathDelay
  split
  next hlt => exact hlt
  next =>
    show (v.path.dropLast).length + 1 ≤ 2624
    rw [List.length_dropLast]
    omega

@[simp] theorem pushCycle_lock (c : PathCycle) (v : Vpl) : (pushCycle c v).lock = v.lock := by
  unfold pushCycle
  split <;> rfl

theorem kept_passCycle (c : VideoIn) (s : State) : Kept s (passCycle c s) :=
  kept_withVpl (fun h => pushCycle_path_length h _) fun h => by rw [pushCycle_lock]; exact h

theorem kept_videoCycle (c : VideoIn) (s : State) : Kept s (videoCycle c s) := by
  have hpassed : Kept s (passCycle c (cycleEvents c s)) := (kept_passCycle ..).after (kept_cycleEvents c s)
  unfold videoCycle
  split
  · exact kept_passCycle c s
  · dsimp only
    split
    · exact (quiet_takeControlBytes ..).toKept.after hpassed
    · exact hpassed

/-! ## Power and the reset pin (R180) -/

theorem resetResult_ok : ResultOk resetResult := ⟨indefinitePoint_ok, indefinitePoint_ok⟩

theorem resetTbs_ok : TbsOk resetTbs none := by
  have hempty : ∀ b, bankOf resetTbs b = emptyBank := fun b => by cases b <;> rfl
  refine ⟨fun a b ha => ?_, fun b hf => ?_, nofun, nofun, nofun, rfl⟩
  · rw [hempty] at ha; cases ha
  · rw [hempty] at hf; exact absurd rfl hf

/-- Settles O55. -/
theorem resetStateMeetsTheInvariants : Obligations.ResetStateMeetsTheInvariants := by
  refine ⟨⟨by decide, by decide⟩, by decide, ⟨contextOk_idle resetGestureContext, fun i g hg => ?_⟩,
    (tablesOk_iff State.reset).mpr resetTbs_ok, ⟨indefinitePoint_ok, resetResult_ok, resetResult_ok, fun f hf => ?_,
      List.forall_mem_nil _, fun i g hg => ?_⟩, fun g _ => groupOk_resetSettings g,
    fun _ => settingsPending_resetSettings, by decide⟩
  · fin_cases i <;> cases hg
  · cases hf
  · fin_cases i <;> cases hg

/-- A state with the blocks of the reset, whatever its rates, its delay path and the commands that wait. -/
theorem kept_reset {s : State} (straps : Straps) {v : Vpl} (hpath : PathOk s → v.path.length ≤ 2624) (hold : Bool)
    (q : List Instr) : Kept s { State.reset with
      vpl := v, ptu := resetPtu straps, rlt := { resetRlt straps with hold := hold }, pending := q } := by
  obtain ⟨hqueue, -, hgestures, htables, hcoordinates, hgroups, hwaits, hphase⟩ := resetStateMeetsTheInvariants
  exact ⟨⟨fun _ => hqueue, hpath, fun _ => hgestures, fun _ => htables, fun _ => hcoordinates⟩,
    fun _ => ⟨hgroups, fun _ => settingsPending_resetSettings, hphase⟩⟩

theorem kept_assertPin (s : State) : Kept s (assertPin s) where
  queue := id
  path := id
  gestures := id
  tables := fun _ => (tablesOk_iff (assertPin s)).mpr resetTbs_ok
  coordinates := fun ⟨hmail, hpub, hlatch, _, hrest⟩ =>
    ⟨hmail, hpub, hlatch, fun f hf => absurd hf (Option.not_mem_none f), hrest⟩
  settings := id

/-! ## Steps -/

theorem kept_exec {c : Instr} {s t : State} (h : exec c s = .next t) : Kept s t := by
  by_cases hquiet : isVideo c = false ∧ isPowerOrPin c = false ∧ c ≠ .lockSilenceExpiry
  · obtain ⟨hvideo, hpower, hsilence⟩ := hquiet
    exact (quiet_exec hvideo hpower hsilence h).toKept
  · cases c with
    | powerOn straps => cases h; exact kept_reset straps (fun _ => Nat.zero_le _) false s.pending
    | resetPinAssert => cases h; exact kept_assertPin s
    | resetPinRelease straps =>
      cases h
      split
      · exact kept_reset (v := releasedVpl s.vpl) straps id s.rlt.hold s.pending
      · exact .of_eq rfl
    | controlByteCycle _ _ _ | vcxInActiveVideo _ _ _ | pixelCycle _ _ _ | lineEnd _ _ _ | frameStart _ _ _ _ =>
      cases h; exact kept_videoCycle ..
    | lockSilenceExpiry =>
      cases h
      split
      · exact .of_eq rfl
      · exact kept_lockSilence s
    | _ => exact absurd ⟨rfl, rfl, nofun⟩ hquiet

/-- Every step keeps every invariant. -/
theorem kept_step {s t : State} (h : step s = .next t) : Kept s t := by
  unfold step at h
  split at h
  next => cases h; exact .of_eq rfl
  next c rest _ =>
    have hrest : Kept s (s.withPending rest) := ⟨⟨id, id, id, id, id⟩, id⟩
    exact hrest.trans (kept_exec h)

/-- Settles O56. -/
theorem stepsKeepTheQueueAndPathBounds : Obligations.StepsKeepTheQueueAndPathBounds :=
  fun _ _ h => ⟨(kept_step h).queue, (kept_step h).path⟩

/-- Settles O57. -/
theorem stepsKeepTheGestures : Obligations.StepsKeepTheGestures := fun _ _ hs h => (kept_step h).gestures hs

/-- Settles O58. -/
theorem stepsKeepTheTables : Obligations.StepsKeepTheTables := fun _ _ hs h => (kept_step h).tables hs

/-- Settles O59. -/
theorem stepsKeepTheCoordinates : Obligations.StepsKeepTheCoordinates := fun _ _ hs h => (kept_step h).coordinates hs

/-- Settles O60. -/
theorem stepsKeepTheSettings : Obligations.StepsKeepTheSettings := fun _ _ hs h => (kept_step h).settings hs

end Sys2Proof.Machine

/-! Steps, power and the reset pin (R180), and the input cycles of the video path (R1 to R5, R10). -/

namespace Sys2Proof.Machine

/-! ## Steps, power and the reset pin -/

/-- Settles O1. -/
theorem stepTakesTheFrontCommand : Obligations.StepTakesTheFrontCommand := by
  refine ⟨fun c rest s h => ?_, fun s h => ?_, fun c s => ?_⟩
  · rw [step, h]
    rfl
  · rw [step, h]
  · cases c <;> exact ⟨_, rfl⟩

/-- The blocks of a reset, whatever its delay path, its output, the last VVS level, HOLD and the commands that wait. -/
theorem blocksReset_reset (straps : Straps) (path : List PathCycle) (out : VideoOut) (prevVvs hold : Bool)
    (q : List Instr) : BlocksReset straps { State.reset with
      vpl := { resetVpl with path := path, out := out, prevVvs := prevVvs }, ptu := resetPtu straps,
      rlt := { resetRlt straps with hold := hold }, pending := q } := by
  refine ⟨⟨rfl, rfl, rfl, rfl, rfl, rfl, rfl⟩, ⟨rfl, fun g => ?_, rfl, rfl, rfl, rfl⟩, ⟨rfl, rfl, rfl, rfl, rfl, rfl, rfl⟩,
    fun b => ?_, ⟨rfl, rfl, rfl, rfl, rfl, rfl, rfl, rfl, rfl, rfl, rfl⟩, ⟨rfl, rfl, rfl⟩, rfl, ?_, rfl, rfl, rfl, rfl, rfl⟩
  · cases g <;> rfl
  · cases b <;> exact ⟨rfl, rfl, rfl, rfl, rfl, rfl⟩
  · refine ⟨rfl, rfl, rfl, rfl, rfl, rfl, rfl, rfl, rfl, rfl, rfl, rfl, rfl, rfl, rfl, rfl, rfl, rfl, rfl, rfl, rfl, rfl,
      rfl, rfl, rfl⟩

/-- Settles O2. -/
theorem resetStateHoldsTheResetValues : Obligations.ResetStateHoldsTheResetValues :=
  ⟨blocksReset_reset _ [] ⟨0, false, false, false⟩ false false [], rfl, rfl, rfl, rfl⟩

/-- Settles O3. -/
theorem powerOnAndReleaseLeaveTheResetValues : Obligations.PowerOnAndReleaseLeaveTheResetValues := by
  refine ⟨fun straps s => ⟨_, rfl, ?_, rfl, rfl, rfl, rfl⟩, fun straps s h => ⟨releasePinState straps s, ?_, ?_, rfl, rfl,
    rfl, rfl⟩⟩
  · exact blocksReset_reset straps [] ⟨0, false, false, false⟩ false false s.pending
  · exact congrArg _ (if_pos h)
  · exact blocksReset_reset straps s.vpl.path s.vpl.out s.vpl.prevVvs s.rlt.hold s.pending

/-- Settles O4. -/
theorem pinAssertionCutsWorkShort : Obligations.PinAssertionCutsWorkShort := fun _ =>
  ⟨_, rfl, rfl, rfl, rfl, rfl, rfl, rfl, rfl, rfl, fun b => by cases b <;> exact ⟨rfl, rfl⟩, rfl, rfl, rfl, rfl, rfl, rfl,
    rfl, rfl, rfl, rfl, rfl, rfl, rfl, rfl⟩

/-! ## The delay path (R1) -/

/-- The held cycles after one more has entered. -/
def pushedPath (c : PathCycle) (path : List PathCycle) : List PathCycle :=
  if path.length < 2624 then c :: path else c :: path.dropLast

/-- The output after a cycle has entered a path. -/
def pushedOut (c : PathCycle) (path : List PathCycle) (out : VideoOut) : VideoOut :=
  if path.length < 2624 then out
  else ⟨(path.getLastD c).outVd, (path.getLastD c).vhs, (path.getLastD c).vvs, (path.getLastD c).vde⟩

/-- A cycle that enters changes the path, the output and the last VVS level alone. -/
theorem pushCycle_eq (c : PathCycle) (v : Vpl) :
    pushCycle c v = { v with path := pushedPath c v.path, out := pushedOut c v.path v.out, prevVvs := c.vvs } := by
  by_cases h : v.path.length < 2624
  · simp only [pushedPath, pushedOut, if_pos h]
    exact if_pos h
  · simp only [pushedPath, pushedOut, if_neg h]
    exact if_neg h

theorem pushedPath_head (c : PathCycle) (path : List PathCycle) : (pushedPath c path).head? = some c := by
  unfold pushedPath
  split <;> rfl

/-- A VDE-low cycle passes as its input VD, or blanked where it carries control bytes (R2, R3). -/
theorem passCycle_low (vd : Rgb) (vhs vvs vcx : Bool) (s : State) :
    passCycle ⟨vd, vhs, vvs, false, vcx⟩ s =
      s.withVpl (pushCycle ⟨vd, vhs, vvs, false, if vcx then 0 else vd⟩ s.vpl) := by
  cases vcx <;> rfl

/-- A VDE-high cycle passes as its input VD outside the overlay window (R2). -/
theorem passCycle_pixel {s : State} (hwindow : s.vpl.windowOpen = false) (vd : Rgb) (vhs vvs vcx : Bool) :
    passCycle ⟨vd, vhs, vvs, true, vcx⟩ s = s.withVpl (pushCycle ⟨vd, vhs, vvs, true, vd⟩ s.vpl) := by
  simp [passCycle, outputVd, hwindow]

/-- Inside the overlay window a pixel passes as the composer answers for its screen position (R2, R11). -/
theorem passCycle_answered {s : State} (hwindow : s.vpl.windowOpen = true) {x : Nat} (hrun : s.vpl.run = x + 1)
    (vd : Rgb) (vhs vvs : Bool) :
    passCycle ⟨vd, vhs, vvs, true, false⟩ s = s.withVpl (pushCycle ⟨vd, vhs, vvs, true,
      match answer s.ovc x s.vpl.record.lines with
      | .none => vd
      | .color c => c
      | .invert => ~~~vd⟩ s.vpl) := by
  have hx : ((s.vpl.run : Int) - 1) = x := by omega
  simp only [passCycle, outputVd, hwindow, hx]
  rfl

/-! ## Input cycles while the blocks run -/

section
variable {s : State} {vd : Rgb} {vhs vvs : Bool}

theorem cycleEvents_low (hedge : vvs = true → s.vpl.prevVvs = true) (vcx : Bool) :
    cycleEvents ⟨vd, vhs, vvs, false, vcx⟩ s = closeLine s := by
  have hno : (vvs && !s.vpl.prevVvs) = false := by cases vvs <;> simp_all
  simp [cycleEvents, hno]

theorem cycleEvents_pixel (hedge : vvs = true → s.vpl.prevVvs = true) :
    cycleEvents ⟨vd, vhs, vvs, true, false⟩ s = pixelCount s := by
  have hno : (vvs && !s.vpl.prevVvs) = false := by cases vvs <;> simp_all
  simp [cycleEvents, hno]

theorem exec_lineEnd (hrun : Running s) (hedge : vvs = true → s.vpl.prevVvs = true) :
    exec (.lineEnd vd vhs vvs) s = .next (passCycle ⟨vd, vhs, vvs, false, false⟩ (closeLine s)) := by
  show Host.Outcome.next (videoCycle _ s) = _
  simp [videoCycle, hrun, cycleEvents_low hedge]

theorem exec_controlByteCycle (hrun : Running s) (hedge : vvs = true → s.vpl.prevVvs = true) :
    exec (.controlByteCycle vd vhs vvs) s =
      .next (takeControlBytes (controlBytes vd) (passCycle ⟨vd, vhs, vvs, false, true⟩ (closeLine s))) := by
  show Host.Outcome.next (videoCycle _ s) = _
  simp [videoCycle, hrun, cycleEvents_low hedge]

theorem exec_pixelCycle (hrun : Running s) (hedge : vvs = true → s.vpl.prevVvs = true) :
    exec (.pixelCycle vd vhs vvs) s = .next (passCycle ⟨vd, vhs, vvs, true, false⟩ (pixelCount s)) := by
  show Host.Outcome.next (videoCycle _ s) = _
  simp [videoCycle, hrun, cycleEvents_pixel hedge]

end

theorem videoCycle_asserted {s : State} (h : s.resetAsserted = true) (c : VideoIn) :
    videoCycle c s = passCycle c s := if_pos h

/-- Settles O5. -/
theorem assertedPinHoldsEveryBlock : Obligations.AssertedPinHoldsEveryBlock := by
  refine ⟨fun c s h hvideo hpower => ?_, fun vd vhs vvs s h hwindow => ?_⟩
  · cases c with
    | powerOn _ | resetPinAssert | resetPinRelease _ => cases hpower
    | controlByteCycle _ _ _ | vcxInActiveVideo _ _ _ | pixelCycle _ _ _ | lineEnd _ _ _ | frameStart _ _ _ _ =>
      cases hvideo
    | reportTxStart _ | reportTxEnd => exact congrArg _ (if_pos h)
    | _ => exact whileRunning_asserted h _
  · have hpass (c : VideoIn) : Host.Outcome.next (videoCycle c s) = (.next (passCycle c s) : Host.Outcome State Fault Refusal) :=
      congrArg _ (videoCycle_asserted h c)
    refine ⟨(hpass _).trans (congrArg _ (passCycle_low vd vhs vvs true s)),
      (hpass _).trans (congrArg _ (passCycle_pixel hwindow vd vhs vvs false)),
      (hpass _).trans (congrArg _ (passCycle_pixel hwindow vd vhs vvs true)),
      (hpass _).trans (congrArg _ (passCycle_low vd vhs vvs false s)), fun vde vcx => (hpass _).trans (congrArg _ ?_)⟩
    cases vde with
    | false => cases vcx <;> exact passCycle_low vd vhs true _ s
    | true => cases vcx <;> exact passCycle_pixel hwindow vd vhs true _

/-! ## Lock losses -/

/-- The video path after a lock fault, before the LINK report (R9, R13). -/
def faultVpl (restore : Nat) (v : Vpl) : Vpl :=
  { v with lock := .search, candidate := none, windowOpen := false, record := { v.record with usable := false },
           path := restoreNewest restore v.path }

/-- A lock fault is the lock loss of the statements, and gives cycles of its line back. -/
theorem lockFault_spec (fault : LockFault) (line restore : Nat) (s : State) :
    LockLost .search .mismatch (some fault) line s (lockFault fault line restore s) ∧
    (lockFault fault line restore s).vpl = faultVpl restore s.vpl := by
  obtain ⟨hlost, hvpl, -⟩ := lockLoss_spec s (faultVpl restore s.vpl) .search .mismatch (some fault) line
    rfl rfl rfl rfl rfl
  exact ⟨hlost, hvpl⟩

/-- No line is under way once its end is taken. -/
theorem closeLine_run (s : State) : (closeLine s).vpl.run = 0 := by
  by_cases hrun : s.vpl.run = 0
  · rw [closeLine_none hrun, hrun]
  · cases hlock : isLocked s with
    | false => rw [closeLine_unlocked hrun hlock]; rfl
    | true =>
      rw [closeLine_locked hrun hlock]
      split
      · rw [(lockFault_spec ..).2]; rfl
      · split
        · rw [(quiet_activeEnd _).vpl]; rfl
        · rfl

/-- Settles O6. -/
theorem controlByteCycleHandsOnThreeBytes : Obligations.ControlByteCycleHandsOnThreeBytes := by
  intro vd vhs vvs s
  refine ⟨⟨_, rfl, ?_⟩, fun hrun hline hedge => ?_, fun hrun _ hedge => ⟨closeLine s, closeLine_run s, ?_, ?_⟩⟩
  · have hhead (u : State) : (passCycle ⟨vd, vhs, vvs, false, true⟩ u).vpl.path.head? = some ⟨vd, vhs, vvs, false, 0⟩ := by
      rw [passCycle_low, State.withVpl_vpl, pushCycle_eq]
      exact pushedPath_head ..
    unfold videoCycle
    split
    · exact hhead s
    · exact (congrArg (·.path.head?) (quiet_takeControlBytes ..).vpl).trans (hhead _)
  · rw [exec_controlByteCycle hrun hedge, closeLine_none hline, passCycle_low]
    rfl
  · rw [exec_lineEnd hrun hedge, passCycle_low]
    rfl
  · rw [exec_controlByteCycle hrun hedge, passCycle_low]
    rfl

/-! ## Pixels (R4, R5) -/

/-- The state after one more pixel of the line under way is counted. -/
def pixelCounted (s : State) : State := s.withVpl { s.vpl with run := min (s.vpl.run + 1) 4095 }

/-- A pixel that neither starts the active part of a frame nor breaks the lock is counted alone. -/
theorem pixelCount_plain {s : State} (hawait : s.vpl.awaitActive = false)
    (hexcess : isLocked s = true → s.vpl.run = 0 → s.vpl.record.lines ≠ s.vpl.height)
    (hwidth : isLocked s = true → s.vpl.run ≠ s.vpl.width) :
    pixelCount s = pixelCounted s := by
  have h1 : ¬(isLocked s && s.vpl.run == 0 && s.vpl.record.lines == s.vpl.height) = true := by
    simp only [Bool.and_eq_true, beq_iff_eq, not_and]
    exact fun h => hexcess h.1 h.2
  have h2 : ¬(isLocked s && s.vpl.run == s.vpl.width) = true := by
    simp only [Bool.and_eq_true, beq_iff_eq, not_and]
    exact hwidth
  simp only [pixelCount, hawait, Bool.false_eq_true, if_false, if_neg h1, if_neg h2, pixelCounted, Config.lineMax]

theorem isLocked_iff (s : State) : isLocked s = true ↔ s.vpl.lock = .locked := beq_iff_eq

theorem isLocked_eq_false_iff (s : State) : isLocked s = false ↔ s.vpl.lock ≠ .locked := beq_eq_false_iff_ne

/-- A cycle with VCX high in active video is the pixel cycle with LINK_ERR set (R4). -/
theorem videoCycle_vcx {s : State} (hrun : Running s) (vd : Rgb) (vhs vvs : Bool) :
    videoCycle ⟨vd, vhs, vvs, true, true⟩ s = setLinkErr (videoCycle ⟨vd, vhs, vvs, true, false⟩ s) := by
  simp [videoCycle, hrun, cycleEvents]
  rfl

/-- Settles O7. -/
theorem pixelCycleIsCountedAndAnswered : Obligations.PixelCycleIsCountedAndAnswered := by
  intro vd vhs vvs s hrun
  refine ⟨⟨_, rfl, congrArg _ (videoCycle_vcx hrun vd vhs vvs)⟩, fun hedge hawait => ⟨fun hlock hwindow => ?_,
    fun hlock hwindow hlt hwidth hheight => ?_⟩⟩
  · have hnot : isLocked s ≠ true := fun h => hlock ((isLocked_iff s).mp h)
    rw [exec_pixelCycle hrun hedge, pixelCount_plain hawait (fun h => absurd h hnot) fun h => absurd h hnot,
      passCycle_pixel (s := pixelCounted s) hwindow, pushCycle_eq, pushCycle_eq]
    rfl
  · have hcount : min (s.vpl.run + 1) 4095 = s.vpl.run + 1 := Nat.min_eq_left hlt
    rw [exec_pixelCycle hrun hedge, pixelCount_plain hawait (fun _ => hheight) fun _ => hwidth,
      passCycle_answered (s := pixelCounted s) hwindow hcount, pushCycle_eq, pushCycle_eq, ← hcount]
    rfl

/-! ## Ends of lines and of frames (R5, R11, R86) -/

/-- An interval that is reached starts a verify with tag 0 of an ACTIVE bank that none runs on. -/
theorem intervalExpiry_starts {s : State} {b : BankId} (hb : activeBank s.tbs = some b) (hv : s.tbs.verify = none) :
    intervalExpiry s = s.withTbs { s.tbs with interval := 0, verify := some ⟨b, 0, 0xFFFF, 0⟩ } := by
  simp only [intervalExpiry, hb, hv]
  rfl

/-- With no ACTIVE bank, or a verify running, the counter alone is back to 0. -/
theorem intervalExpiry_stays {s : State} (h : activeBank s.tbs = none ∨ s.tbs.verify ≠ none) :
    intervalExpiry s = s.withTbs { s.tbs with interval := 0 } := by
  unfold intervalExpiry
  dsimp only
  split
  next hb hv => exact (h.elim (fun h => by simp [h] at hb) fun h => h hv).elim
  next => rfl

/-- What the active end does to the table store: the interval counter counts, or is 0, or is back to 0 with a verify of the
ACTIVE bank (R86). -/
theorem countActiveEnd_tbs (s : State) :
    (verifyInterval (settings s) = 0 → (countActiveEnd s).tbs = { s.tbs with interval := 0 }) ∧
    (s.tbs.interval + 1 < verifyInterval (settings s) →
      (countActiveEnd s).tbs = { s.tbs with interval := s.tbs.interval + 1 }) ∧
    (verifyInterval (settings s) ≠ 0 → verifyInterval (settings s) ≤ s.tbs.interval + 1 →
      (∀ b, activeBank s.tbs = some b → s.tbs.verify = none →
        (countActiveEnd s).tbs = { s.tbs with interval := 0, verify := some ⟨b, 0, 0xFFFF, 0⟩ }) ∧
      (activeBank s.tbs = none ∨ s.tbs.verify ≠ none → (countActiveEnd s).tbs = { s.tbs with interval := 0 })) := by
  refine ⟨fun h0 => ?_, fun hshort => ?_, fun h0 hreach => ?_⟩
  · rw [countActiveEnd, if_pos h0]; rfl
  · have h0 : verifyInterval (settings s) ≠ 0 := by omega
    have hno : reachesInterval s = false := by simp [reachesInterval]; omega
    rw [countActiveEnd, if_neg h0, hno]; rfl
  · have hyes : reachesInterval s = true := by simp [reachesInterval]; omega
    rw [countActiveEnd, if_neg h0, hyes, if_pos rfl]
    exact ⟨fun b hb hv => congrArg State.tbs (intervalExpiry_starts hb hv),
      fun h => congrArg State.tbs (intervalExpiry_stays h)⟩

/-- An active end changes lines_overrun and the table store alone. -/
theorem activeEnd_eq (s : State) : activeEnd s = { s with
    ovc := { s.ovc with linesOverrun := s.ovc.frameOverrun }, tbs := (countActiveEnd s).tbs } := by
  have hcount (u : State) : countActiveEnd u = u.withTbs (countActiveEnd u).tbs := by
    unfold countActiveEnd
    split
    · rfl
    · split
      · unfold intervalExpiry
        dsimp only
        split <;> rfl
      · rfl
  have htbs : (countActiveEnd (composerActiveEnd s)).tbs = (countActiveEnd s).tbs := by
    unfold countActiveEnd
    show State.tbs (if verifyInterval (settings s) = 0 then _ else if reachesInterval s = true then _ else _) = _
    split
    · rfl
    · split
      · cases hb : activeBank s.tbs <;> cases hv : s.tbs.verify <;>
          simp [intervalExpiry, composerActiveEnd, startVerify, hb, hv]
      · rfl
  rw [activeEnd, hcount, htbs]
  rfl

/-- A line that has the right width, short of the last line, enters the record alone. -/
theorem closeLine_plain {s : State} (hrun : s.vpl.run ≠ 0) (hwidth : s.vpl.run = s.vpl.width)
    (hlast : s.vpl.record.lines + 1 ≠ s.vpl.height) : closeLine s = lineEntered s := by
  cases hlock : isLocked s with
  | false => exact closeLine_unlocked hrun hlock
  | true => rw [closeLine_locked hrun hlock, if_neg (by omega), if_neg hlast]

/-- In LOCKED the end of the last line, at the right width, is the active end. -/
theorem closeLine_last {s : State} (hlock : isLocked s = true) (hrun : s.vpl.run ≠ 0)
    (hwidth : s.vpl.run = s.vpl.width) (hlast : s.vpl.record.lines + 1 = s.vpl.height) :
    closeLine s = activeEnd (lineEntered s) := by
  rw [closeLine_locked hrun hlock, if_neg (by omega), if_pos hlast]

/-- Settles O8. -/
theorem lineEndMeasuresTheLine : Obligations.LineEndMeasuresTheLine := by
  intro vd vhs vvs s hrun hedge r passed ended interval
  have hexec : exec (.lineEnd vd vhs vvs) s =
      .next ((closeLine s).withVpl (pushCycle ⟨vd, vhs, vvs, false, vd⟩ (closeLine s).vpl)) := by
    rw [exec_lineEnd hrun hedge, passCycle_low]
    rfl
  have hended : (lineEntered s).withVpl (pushCycle ⟨vd, vhs, vvs, false, vd⟩ (lineEntered s).vpl) = ended := by
    show (s.withVpl _).withVpl _ = s.withVpl _
    rw [pushCycle_eq, show passed = _ from pushCycle_eq ..]
    rfl
  refine ⟨fun hline => ?_, fun hline hlock => ?_, fun hline _ hwidth hlast => ?_, fun hline hlock hwidth hlast => ?_⟩
  · rw [hexec, closeLine_none hline]
    rfl
  · rw [hexec, closeLine_unlocked (by omega) ((isLocked_eq_false_iff s).mpr hlock), hended]
  · rw [hexec, closeLine_plain (by omega) hwidth hlast, hended]
  · refine ⟨_, hexec, ?_⟩
    rw [closeLine_last ((isLocked_iff s).mpr hlock) (by omega) hwidth hlast, activeEnd_eq]
    exact ⟨congrArg (fun u : State => { u with
      ovc := { s.ovc with linesOverrun := s.ovc.frameOverrun }, tbs := (countActiveEnd (lineEntered s)).tbs }) hended,
      countActiveEnd_tbs (lineEntered s)⟩

/-! ## The frame-start silence (R10) -/

/-- A lock loss seen from a state that differs in the video path and the receive state alone. -/
theorem LockLost.of_frame {lock : LockState} {cause : LinkCause} {fault : Option LockFault} {line : Nat} {s u t : State}
    (h : LockLost lock cause fault line u t) (hwidth : u.vpl.width = s.vpl.width) (hheight : u.vpl.height = s.vpl.height)
    (hpds : u.pds.settings = s.pds.settings) (hfence : u.pds.fence = s.pds.fence)
    (hover : u.pds.reportOverrun = s.pds.reportOverrun) (hptu : u.ptu = s.ptu) (htbs : u.tbs = s.tbs)
    (hsse : u.sse = s.sse) (hgcu : u.gcu = s.gcu) (hovc : u.ovc = s.ovc) (hrlt : u.rlt = s.rlt) :
    LockLost lock cause fault line s t := by
  obtain ⟨hlock, hcand, hw, hh, hwindow, hnone, hcur, hov, hroom, hoffered⟩ := h
  have hreports : applyReports u = applyReports s := by simp only [applyReports, htbs, hfence]
  rw [hwidth, hheight] at hroom hoffered
  rw [hreports] at hoffered
  have hcongr := offered_congr (⟨0, .link lock cause fault line s.vpl.width s.vpl.height⟩ :: applyReports s) hrlt hover
  refine ⟨hlock, hcand, hw.trans hwidth, hh.trans hheight, hwindow, hnone, ?_, ?_, ?_, hoffered.1.trans hcongr.1,
    hoffered.2.trans hcongr.2⟩
  · simpa only [ChangesCurrent, hpds, hptu, htbs, hsse, hgcu, applySearches, SearchAsked] using hcur
  · simpa only [hpds, hovc] using hov
  · rwa [Room, hrlt] at hroom

/-- Settles O11. -/
theorem lockSilenceEntersLost : Obligations.LockSilenceEntersLost := by
  intro s ms hrun hsilence
  have hexec : exec .lockSilenceExpiry s = .next (lockSilence s) := whileRunning_running hrun _
  refine ⟨fun hlock => ?_, fun hlock => ?_⟩
  · have hnot : s.vpl.lock ≠ .locked := by rcases hlock with h | h <;> rw [h] <;> nofun
    rw [hexec, lockSilence_unlocked hsilence ((isLocked_eq_false_iff s).mpr hnot)]
    rfl
  · obtain ⟨hlost, hvpl, -, -, hreceive⟩ := lockLoss_spec (discardPartial s) (lostVpl s.vpl) .lost .silence none 0
      rfl rfl rfl rfl rfl
    refine ⟨_, hexec, ?_⟩
    rw [lockSilence_locked hsilence ((isLocked_iff s).mpr hlock)]
    exact ⟨hlost.of_frame rfl rfl rfl rfl rfl rfl rfl rfl rfl rfl rfl, congrArg (·.record.usable) hvpl,
      congrArg Vpl.silence hvpl, hreceive, (congrArg Vpl.path hvpl).trans rfl⟩

end Sys2Proof.Machine

/-! The lock machine's faults and judgements, and the active start (R5 to R13). -/

namespace Sys2Proof.Machine

/-! ## Lock losses and the cycles given back (R9, R13) -/

/-- A lock loss seen with a later video path that keeps what the loss says of it. -/
theorem LockLost.then_vpl {lock : LockState} {cause : LinkCause} {fault : Option LockFault} {line : Nat} {s t : State}
    {v : Vpl} (h : LockLost lock cause fault line s t) (hlock : v.lock = t.vpl.lock)
    (hcand : v.candidate = t.vpl.candidate) (hwidth : v.width = t.vpl.width) (hheight : v.height = t.vpl.height)
    (hwindow : v.windowOpen = t.vpl.windowOpen) : LockLost lock cause fault line s (t.withVpl v) := by
  obtain ⟨h1, h2, h3, h4, h5, hrest⟩ := h
  exact ⟨hlock.trans h1, hcand.trans h2, hwidth.trans h3, hheight.trans h4, hwindow.trans h5, hrest⟩

theorem LockLost.passed {lock : LockState} {cause : LinkCause} {fault : Option LockFault} {line : Nat} {s t : State}
    (h : LockLost lock cause fault line s t) (c : VideoIn) : LockLost lock cause fault line s (passCycle c t) := by
  rw [passCycle, pushCycle_eq]
  exact h.then_vpl rfl rfl rfl rfl rfl

theorem LockLost.counted {lock : LockState} {cause : LinkCause} {fault : Option LockFault} {line : Nat} {s t : State}
    (h : LockLost lock cause fault line s t) : LockLost lock cause fault line s (pixelCounted t) :=
  h.then_vpl (v := { t.vpl with run := min (t.vpl.run + 1) 4095 }) rfl rfl rfl rfl rfl

/-- After a WIDTH fault the cycles of the line leave with their input VD, the cycle of the fault with them. -/
theorem outVd_of_restored {c : PathCycle} (hc : c.outVd = c.vd) (n : Nat) (path : List PathCycle) :
    ∀ x ∈ (pushedPath c (restoreNewest n path)).take (n + 1), x.outVd = x.vd := by
  have hheld : ∀ l : List PathCycle, l <+: restoreNewest n path → ∀ x ∈ (c :: l).take (n + 1), x.outVd = x.vd := by
    intro l hl x hx
    rw [List.take_succ_cons] at hx
    rcases List.mem_cons.mp hx with rfl | hx
    · exact hc
    · obtain ⟨i, hi, rfl⟩ := List.mem_take_iff_getElem.mp hx
      have hin : i < n := by omega
      rw [hl.getElem]
      simp only [restoreNewest, List.getElem_mapIdx, if_pos hin]
  unfold pushedPath
  split
  · exact hheld _ (List.prefix_refl _)
  · exact hheld _ (List.dropLast_prefix _)

/-- A pixel past the width of its line is a WIDTH fault, and is counted (R9). -/
theorem pixelCount_long {s : State} (hawait : s.vpl.awaitActive = false) (hlock : isLocked s = true)
    (hexcess : s.vpl.run = 0 → s.vpl.record.lines ≠ s.vpl.height) (hwidth : s.vpl.run = s.vpl.width) :
    pixelCount s = pixelCounted (lockFault .width s.vpl.record.lines s.vpl.run s) := by
  have h1 : ¬(isLocked s && s.vpl.run == 0 && s.vpl.record.lines == s.vpl.height) = true := by
    simp only [Bool.and_eq_true, beq_iff_eq, not_and]
    exact fun h => hexcess h.2
  have h2 : (isLocked s && s.vpl.run == s.vpl.width) = true := by simp only [hlock, hwidth, beq_self_eq_true, Bool.and_self]
  simp only [pixelCount, hawait, Bool.false_eq_true, if_false, if_neg h1, if_pos h2, Config.lineMax, pixelCounted,
    (lockFault_spec ..).2, faultVpl]

/-- The first pixel of a line after the last is an EXCESS fault, and is counted (R9). -/
theorem pixelCount_excess {s : State} (hawait : s.vpl.awaitActive = false) (hlock : isLocked s = true)
    (hrun : s.vpl.run = 0) (hlines : s.vpl.record.lines = s.vpl.height) :
    pixelCount s = pixelCounted (lockFault .excess s.vpl.record.lines 0 s) := by
  have h1 : (isLocked s && s.vpl.run == 0 && s.vpl.record.lines == s.vpl.height) = true := by
    simp only [hlock, hrun, hlines, beq_self_eq_true, Bool.and_self]
  simp only [pixelCount, hawait, Bool.false_eq_true, if_false, if_pos h1, Config.lineMax, pixelCounted,
    (lockFault_spec ..).2, faultVpl]

/-! ## Frame starts (R5, R7 to R11) -/

/-- A line shorter than the width cut by a frame start ends as a WIDTH fault; the frame is not judged again. -/
theorem frameStart_cut {s : State} (hlock : isLocked s = true) (hrun : 0 < s.vpl.run)
    (hshort : s.vpl.run < s.vpl.width) :
    frameStart s = beginFrame (lockFault .width s.vpl.record.lines s.vpl.run (lineEntered s)) := by
  have hlost : isLocked (lockFault .width s.vpl.record.lines s.vpl.run (lineEntered s)) = false := by
    rw [isLocked_eq_false_iff, (lockFault_spec ..).2]
    nofun
  rw [frameStart, closeLine_locked (by omega) hlock, if_pos hshort, (isLocked_iff s).mp hlock, judgeFrameEnd]
  simp only [hlost, Bool.false_and, Bool.false_eq_true, if_false]

/-- A frame start in LOCKED with no line under way: fewer lines than H are a SHORT fault. -/
theorem frameStart_short {s : State} (hlock : isLocked s = true) (hrun : s.vpl.run = 0)
    (hlines : s.vpl.record.lines < s.vpl.height) :
    frameStart s = beginFrame (lockFault .short s.vpl.record.lines 0 s) := by
  rw [frameStart, closeLine_none hrun, (isLocked_iff s).mp hlock, judgeFrameEnd]
  simp only [hlock, Bool.true_and, decide_eq_true hlines, if_true]

/-- H lines keep LOCKED. -/
theorem frameStart_kept {s : State} (hlock : isLocked s = true) (hrun : s.vpl.run = 0)
    (hlines : s.vpl.record.lines = s.vpl.height) : frameStart s = beginFrame s := by
  rw [frameStart, closeLine_none hrun, (isLocked_iff s).mp hlock, judgeFrameEnd]
  simp only [hlines, Nat.lt_irrefl, decide_false, Bool.and_false, Bool.false_eq_true, if_false]

section
variable {s : State} {vd : Rgb} {vhs : Bool}

/-- On the leading edge of VVS a cycle with neither VDE nor VCX passes after the frame start. -/
theorem exec_frameStart (hrun : Running s) (hprev : s.vpl.prevVvs = false) :
    exec (.frameStart vd vhs false false) s = .next (passCycle ⟨vd, vhs, true, false, false⟩ (frameStart s)) := by
  show Host.Outcome.next (videoCycle _ s) = _
  simp [videoCycle, hrun, cycleEvents, hprev]

end

theorem LockLost.begun {lock : LockState} {cause : LinkCause} {fault : Option LockFault} {line : Nat} {s t : State}
    (h : LockLost lock cause fault line s t) : LockLost lock cause fault line s (beginFrame t) := by
  have hwindow : t.vpl.windowOpen = false := h.2.2.2.2.1
  exact h.then_vpl rfl rfl rfl rfl hwindow.symm

/-- The faults of a line seen from the state before its entry in the record. -/
theorem LockLost.of_lineEntered {lock : LockState} {cause : LinkCause} {fault : Option LockFault} {line : Nat}
    {s t : State} (h : LockLost lock cause fault line (lineEntered s) t) : LockLost lock cause fault line s t :=
  h.of_frame rfl rfl rfl rfl rfl rfl rfl rfl rfl rfl rfl

/-- Settles O9. -/
theorem lockFaultsEndTheLock : Obligations.LockFaultsEndTheLock := by
  intro vd vhs vvs s hrun hlocked
  have hlock := (isLocked_iff s).mpr hlocked
  refine ⟨fun hedge hline hshort => ⟨_, exec_lineEnd hrun hedge, ?_⟩,
    fun hedge hawait hline hwidth => ⟨_, exec_pixelCycle hrun hedge, ?_⟩,
    fun hedge hawait hline hlines => ⟨_, exec_pixelCycle hrun hedge, ?_⟩,
    fun hprev hline hlines => ⟨_, exec_frameStart hrun hprev, ?_⟩,
    fun hprev hline hshort => ⟨_, exec_frameStart hrun hprev, ?_⟩⟩
  case refine_1 =>
    obtain ⟨hlost, hvpl⟩ := lockFault_spec .width s.vpl.record.lines s.vpl.run (lineEntered s)
    rw [closeLine_locked (by omega) hlock, if_pos hshort]
    refine ⟨hlost.of_lineEntered.passed _, ?_⟩
    rw [passCycle_low, State.withVpl_vpl, pushCycle_eq, hvpl]
    exact ⟨rfl, outVd_of_restored rfl _ _⟩
  case refine_2 =>
    obtain ⟨hlost, hvpl⟩ := lockFault_spec .width s.vpl.record.lines s.vpl.run s
    rw [pixelCount_long hawait hlock (fun h => by omega) hwidth]
    generalize lockFault .width s.vpl.record.lines s.vpl.run s = f at hlost hvpl
    refine ⟨hlost.counted.passed _, ?_⟩
    rw [passCycle_pixel (s := pixelCounted f) (congrArg Vpl.windowOpen hvpl), State.withVpl_vpl, pushCycle_eq, pixelCounted,
      hvpl]
    exact ⟨rfl, outVd_of_restored rfl _ _⟩
  case refine_3 =>
    obtain ⟨hlost, hvpl⟩ := lockFault_spec .excess s.vpl.record.lines 0 s
    rw [pixelCount_excess hawait hlock hline hlines]
    rw [hlines] at hlost hvpl ⊢
    generalize lockFault .excess s.vpl.height 0 s = f at hlost hvpl
    refine ⟨hlost.counted.passed _, ?_⟩
    rw [passCycle_pixel (s := pixelCounted f) (congrArg Vpl.windowOpen hvpl), State.withVpl_vpl, pushCycle_eq, pixelCounted,
      hvpl]
    rfl
  case refine_4 =>
    rw [frameStart_short hlock hline hlines]
    refine ⟨(lockFault_spec ..).1.begun.passed _, ?_⟩
    rw [passCycle_low, State.withVpl_vpl, pushCycle_eq]
    rfl
  case refine_5 =>
    obtain ⟨hlost, hvpl⟩ := lockFault_spec .width s.vpl.record.lines s.vpl.run (lineEntered s)
    rw [frameStart_cut hlock hline hshort]
    generalize lockFault .width s.vpl.record.lines s.vpl.run (lineEntered s) = f at hlost hvpl
    refine ⟨hlost.of_lineEntered.begun.passed _, ?_⟩
    rw [passCycle_low, State.withVpl_vpl, pushCycle_eq]
    refine ⟨rfl, ?_⟩
    show ∀ c ∈ (pushedPath _ f.vpl.path).take _, _
    rw [hvpl]
    exact outVd_of_restored rfl _ _

end Sys2Proof.Machine

/-! Frame starts and active starts (R7 to R13): an apply point does not read the video path; every judgement of a frame. -/

namespace Sys2Proof.Machine

/-! ## The apply point and the video path -/

section
variable (s : State) (v : Vpl)

theorem offered_withVpl (l : List Report) : (s.withVpl v).offered l = (s.offered l).withVpl v := by
  induction l generalizing s with
  | nil => rfl
  | cons r l ih =>
    have hoffer : offer r.tag r.body (s.withVpl v) = (offer r.tag r.body s).withVpl v := by
      rcases offer_cases r.tag r.body s with ⟨hq, h⟩ | ⟨hq, h⟩
      · rw [h, offer_room (s := s.withVpl v) hq]; rfl
      · rw [h, offer_full (s := s.withVpl v) hq]; rfl
    exact (congrArg (·.offered l) hoffer).trans (ih _)

theorem applyPending_withVpl : applyPending (s.withVpl v) = (applyPending s).withVpl v := by
  rw [applyPending, applyPending, giveNotices_eq, giveNotices_eq]
  rfl

theorem applyMark_withVpl : applyMark (s.withVpl v) = (applyMark s).withVpl v := by
  cases hm : s.tbs.mark with
  | none => simp only [applyMark, State.withVpl_tbs, hm]
  | some m =>
    have hretire : retireActive (s.withVpl v) = (retireActive s).withVpl v := by
      rw [retireActive_eq hm, retireActive_eq (s := s.withVpl v) hm, ← offered_withVpl]
      rfl
    have htold (u : State) : tableReport m.tag (m.target.map bankTarget) .activated (u.withVpl v) =
        (tableReport m.tag (m.target.map bankTarget) .activated u).withVpl v := 
      offered_withVpl u v [⟨m.tag, .table (m.target.map bankTarget) .activated⟩]
    simp only [applyMark, State.withVpl_tbs, hm, activate, hretire]
    exact htold ((retireActive s).withTbs _)

theorem commitStaged_withVpl : commitStaged (s.withVpl v) = (commitStaged s).withVpl v := by
  rw [commitStaged_eq, commitStaged_eq, ← offered_withVpl]
  rfl

theorem completeFence_withVpl : completeFence (s.withVpl v) = (completeFence s).withVpl v := by
  rw [completeFence_eq, completeFence_eq, State.withVpl_pds, offered_withVpl]
  rfl

theorem searchRequest_withVpl : searchRequest (s.withVpl v) = (searchRequest s).withVpl v := by
  unfold searchRequest
  rw [State.withVpl_sse]
  split <;> rfl

theorem applyPoint_withVpl : applyPoint (s.withVpl v) = (applyPoint s).withVpl v := by
  have hwanted : applyRequests (s.withVpl v) = applyRequests s := rfl
  rw [applyPoint, applyPoint, hwanted, applyPending_withVpl, applyMark_withVpl, commitStaged_withVpl,
    completeFence_withVpl]
  cases applyRequests s with
  | false => rfl
  | true => exact searchRequest_withVpl ..

end

/-! ## The last VVS level is read at a frame start alone -/

/-- The state with the last VVS level high. -/
def vvsHigh (s : State) : State := s.withVpl { s.vpl with prevVvs := true }

theorem lockFault_vvsHigh (fault : LockFault) (line restore : Nat) (s : State) :
    lockFault fault line restore (vvsHigh s) = vvsHigh (lockFault fault line restore s) := by
  have hvpl : (lockFault fault line restore s).vpl = faultVpl restore s.vpl := (lockFault_spec ..).2
  have hloss (u : State) (v : Vpl) : lockLoss (u.withVpl v) = (lockLoss u).withVpl v := by
    rw [lockLoss, applyPoint_withVpl]
    rfl
  have htold (b : ReportBody) (v : Vpl) : offer 0 b (s.withVpl v) = (offer 0 b s).withVpl v := offered_withVpl s v [⟨0, b⟩]
  rw [vvsHigh, vvsHigh, hvpl, lockFault, lockFault]
  dsimp only [State.withVpl_withVpl, State.withVpl_vpl]
  rw [htold, htold, hloss, hloss]
  rfl

/-- The latch reads W and H of the video path alone. -/
theorem takeLatch_withVpl {s : State} {v : Vpl} (hwidth : v.width = s.vpl.width) (hheight : v.height = s.vpl.height) :
    takeLatch (s.withVpl v) = (takeLatch s).withVpl v := by
  have hlatch : latchOf (s.withVpl v) = latchOf s := by
    simp only [latchOf, State.withVpl_vpl, hwidth, hheight]
    rfl
  rw [takeLatch, hlatch]
  rfl

/-- The blink step, the latch and a later video path with the same W and H. -/
theorem takeLatch_blinkStep_withVpl {s : State} {v : Vpl} (hwidth : v.width = s.vpl.width)
    (hheight : v.height = s.vpl.height) :
    takeLatch (blinkStep (s.withVpl v)) = (takeLatch (blinkStep s)).withVpl v :=
  takeLatch_withVpl (s := blinkStep s) hwidth hheight

theorem applyPoint_vpl (s : State) : (applyPoint s).vpl = s.vpl := (quiet_applyPoint s).vpl

/-- The active start in LOCKED, step by step: the apply point, the blink step, the latch and the window. -/
theorem activeStart_locked {s : State} (hlock : isLocked s = true) :
    activeStart s = (takeLatch (blinkStep (applyPoint s))).withVpl
      { s.vpl with awaitActive := false, windowOpen := true } := by
  rw [activeStart]
  dsimp only
  rw [if_pos (by exact hlock), applyPoint_withVpl, takeLatch_blinkStep_withVpl (by rw [applyPoint_vpl])
    (by rw [applyPoint_vpl])]
  rfl

theorem activeStart_unlocked {s : State} (hlock : isLocked s = false) :
    activeStart s = (blinkStep s).withVpl { s.vpl with awaitActive := false } := by
  rw [activeStart]
  dsimp only
  rw [if_neg (by rw [show isLocked _ = false from hlock]; nofun)]
  rfl

theorem activeStart_vvsHigh (s : State) : activeStart (vvsHigh s) = vvsHigh (activeStart s) := by
  cases hlock : isLocked s with
  | false =>
    rw [activeStart_unlocked hlock, activeStart_unlocked (s := vvsHigh s) hlock]
    rfl
  | true =>
    rw [activeStart_locked hlock, activeStart_locked (s := vvsHigh s) hlock, vvsHigh, applyPoint_withVpl,
      takeLatch_blinkStep_withVpl (by rw [applyPoint_vpl]) (by rw [applyPoint_vpl])]
    rfl

/-- The first pixel of a frame is an active start and then a pixel like any other. -/
theorem pixelCount_await {s : State} (hawait : s.vpl.awaitActive = true) : pixelCount s = pixelCount (activeStart s) := by
  have hdone : (activeStart s).vpl.awaitActive = false := by
    cases hlock : isLocked s with
    | false => rw [activeStart_unlocked hlock]; rfl
    | true => rw [activeStart_locked hlock]; rfl
  simp only [pixelCount, hawait, hdone, if_true, Bool.false_eq_true, if_false]

theorem pixelCount_vvsHigh (s : State) : pixelCount (vvsHigh s) = vvsHigh (pixelCount s) := by
  have hplain (u : State) (h : u.vpl.awaitActive = false) : pixelCount (vvsHigh u) = vvsHigh (pixelCount u) := by
    let count (f : State) : State := f.withVpl { f.vpl with run := min (u.vpl.run + 1) 4095 }
    let faulted : State :=
      if isLocked u && u.vpl.run == 0 && u.vpl.record.lines == u.vpl.height then
        lockFault .excess u.vpl.record.lines 0 u
      else if isLocked u && u.vpl.run == u.vpl.width then lockFault .width u.vpl.record.lines u.vpl.run u
      else u
    have hlow : pixelCount u = count faulted := by simp only [pixelCount, h, Bool.false_eq_true, if_false]; rfl
    have hhigh : pixelCount (vvsHigh u) = count (vvsHigh faulted) := by
      rw [pixelCount, show (vvsHigh u).vpl.awaitActive = false from h]
      simp only [Bool.false_eq_true, if_false, lockFault_vvsHigh, faulted, apply_ite vvsHigh]
      rfl
    rw [hlow, hhigh]
    rfl
  cases hawait : s.vpl.awaitActive with
  | false => exact hplain s hawait
  | true =>
    have hhigh : (vvsHigh s).vpl.awaitActive = true := hawait
    have hdone : (activeStart s).vpl.awaitActive = false := by
      cases hlock : isLocked s with
      | false => rw [activeStart_unlocked hlock]; rfl
      | true => rw [activeStart_locked hlock]; rfl
    rw [pixelCount_await hhigh, pixelCount_await hawait, activeStart_vvsHigh, hplain _ hdone]

end Sys2Proof.Machine

/-! Every judgement of a frame start, and the active start in LOCKED and outside it (R7 to R13). -/

namespace Sys2Proof.Machine

/-! ## Frame starts take the reset pin as it is -/

theorem lockFault_resetAsserted (fault : LockFault) (line restore : Nat) (s : State) :
    (lockFault fault line restore s).resetAsserted = s.resetAsserted :=
  (lockLoss_spec s (faultVpl restore s.vpl) .search .mismatch (some fault) line rfl rfl rfl rfl rfl).2.2.1

theorem closeLine_resetAsserted (s : State) : (closeLine s).resetAsserted = s.resetAsserted := by
  by_cases hrun : s.vpl.run = 0
  · rw [closeLine_none hrun]
  · cases hlock : isLocked s with
    | false => rw [closeLine_unlocked hrun hlock]; rfl
    | true =>
      rw [closeLine_locked hrun hlock]
      split
      · rw [lockFault_resetAsserted]; rfl
      · split
        · rw [activeEnd_eq]; rfl
        · rfl

theorem judgeSearch_resetAsserted (s : State) : (judgeSearch s).resetAsserted = s.resetAsserted := by
  unfold judgeSearch
  dsimp only
  split <;> rfl

theorem frameStart_resetAsserted (s : State) : (frameStart s).resetAsserted = s.resetAsserted := by
  have hjudge (was : LockState) (u : State) : (judgeFrameEnd was u).resetAsserted = u.resetAsserted := by
    unfold judgeFrameEnd
    split
    · exact judgeSearch_resetAsserted u
    · unfold judgeConfirm
      dsimp only
      split
      · rw [offer_resetAsserted]; rfl
      · exact judgeSearch_resetAsserted u
    · split
      · exact lockFault_resetAsserted ..
      · rfl
    · rfl
  exact (hjudge _ _).trans (closeLine_resetAsserted s)

/-! ## The cycle of a frame start (log entry 3) -/

theorem passCycle_vvsHigh (c : VideoIn) (s : State) : passCycle c (vvsHigh s) = passCycle c s := by
  rw [passCycle, passCycle, pushCycle_eq, pushCycle_eq]
  rfl

/-- A leading edge of VVS is the frame start, and then the cycle without the edge. -/
theorem videoCycle_edge {s : State} (hrun : Running s) (hprev : s.vpl.prevVvs = false) (vd : Rgb) (vhs vde vcx : Bool) :
    videoCycle ⟨vd, vhs, true, vde, vcx⟩ s = videoCycle ⟨vd, vhs, true, vde, vcx⟩ (vvsHigh (frameStart s)) := by
  have hrun2 : (vvsHigh (frameStart s)).resetAsserted = false := (frameStart_resetAsserted s).trans hrun
  have hline : (vvsHigh (frameStart s)).vpl.run = 0 := rfl
  have hhigh : (vvsHigh (frameStart s)).vpl.prevVvs = true := rfl
  have hpass : passCycle ⟨vd, vhs, true, vde, vcx⟩ (cycleEvents ⟨vd, vhs, true, vde, vcx⟩ s) =
      passCycle ⟨vd, vhs, true, vde, vcx⟩ (cycleEvents ⟨vd, vhs, true, vde, vcx⟩ (vvsHigh (frameStart s))) := by
    cases vde with
    | false => simp [cycleEvents, hprev, hhigh, closeLine_none hline, passCycle_vvsHigh]
    | true =>
      cases vcx with
      | false => simp [cycleEvents, hprev, hhigh, pixelCount_vvsHigh, passCycle_vvsHigh]
      | true =>
        simp only [cycleEvents, hprev, hhigh, pixelCount_vvsHigh, Bool.not_false, Bool.not_true, Bool.and_true,
          Bool.and_false, Bool.false_eq_true, if_true, if_false]
        exact (passCycle_vvsHigh _ (setLinkErr (pixelCount (frameStart s)))).symm
  simp only [videoCycle, hrun, hrun2, Bool.false_eq_true, if_false, hpass]

/-! ## Judgements (R5, R7, R8) -/

theorem consistent_iff (r : FrameRecord) : consistent r = true ↔ r.usable = true ∧ r.uniform = true ∧ 1 ≤ r.lines := by
  simp [consistent, and_assoc]

theorem withinLimits_iff (r : FrameRecord) :
    withinLimits r = true ↔ 320 ≤ r.firstLength ∧ r.firstLength ≤ 2560 ∧ 240 ≤ r.lines ∧ r.lines ≤ 2048 := by
  simp only [withinLimits, Bool.and_eq_true, decide_eq_true_eq, and_assoc]
  exact Iff.rfl

section
variable {s : State}

theorem judgeSearch_good (hgood : consistent s.vpl.record = true ∧ withinLimits s.vpl.record = true) :
    judgeSearch s = s.withVpl { s.vpl with
      lock := .confirm, candidate := some (s.vpl.record.firstLength, s.vpl.record.lines) } := by
  simp only [judgeSearch, hgood, Bool.and_self, if_true]

theorem judgeSearch_bad (hbad : ¬(consistent s.vpl.record = true ∧ withinLimits s.vpl.record = true)) :
    judgeSearch s = s.withVpl { s.vpl with lock := .search, candidate := none } :=
  if_neg (by rwa [Bool.and_eq_true])

theorem judgeConfirm_match (hmeasured : consistent s.vpl.record = true)
    (hcand : s.vpl.candidate = some (s.vpl.record.firstLength, s.vpl.record.lines)) :
    judgeConfirm s = offer 0 (.link .locked .acquired none 0 s.vpl.record.firstLength s.vpl.record.lines)
      (s.withVpl { s.vpl with
        lock := .locked, candidate := none, width := s.vpl.record.firstLength, height := s.vpl.record.lines }) := by
  simp only [judgeConfirm, hmeasured, hcand, beq_self_eq_true, Bool.and_self, if_true]

theorem judgeConfirm_other (hother : ¬(consistent s.vpl.record = true ∧
    s.vpl.candidate = some (s.vpl.record.firstLength, s.vpl.record.lines))) : judgeConfirm s = judgeSearch s :=
  if_neg (by rwa [Bool.and_eq_true, beq_iff_eq])

/-- The end of a line of the right width leaves the video path as the record's entry does. -/
theorem closeLine_vpl (hrun : s.vpl.run ≠ 0) (hwidth : s.vpl.lock = .locked → s.vpl.run = s.vpl.width) :
    (closeLine s).vpl = (lineEntered s).vpl := by
  cases hlock : isLocked s with
  | false => rw [closeLine_unlocked hrun hlock]
  | true =>
    have hw := hwidth ((isLocked_iff s).mp hlock)
    rw [closeLine_locked hrun hlock, if_neg (by omega)]
    split
    · exact (quiet_activeEnd _).vpl
    · rfl

/-- A frame start with a line of the right width under way is the line's end and then the frame start. -/
theorem frameStart_closeLine (hrun : s.vpl.run ≠ 0) (hwidth : s.vpl.lock = .locked → s.vpl.run = s.vpl.width) :
    frameStart (closeLine s) = frameStart s := by
  rw [frameStart, frameStart, closeLine_none (closeLine_run s), closeLine_vpl hrun hwidth]
  rfl

end

/-- Settles O10. -/
theorem frameStartJudgesTheClosingFrame : Obligations.FrameStartJudgesTheClosingFrame := by
  intro vd vhs s
  refine ⟨⟨rfl, rfl, rfl, rfl⟩, ?_⟩
  intro hrun hprev cycle after r measured good
  refine ⟨vvsHigh (frameStart s), ?_, rfl, rfl, rfl, rfl, rfl, rfl, ?_, ?_, ?_⟩
  case refine_1 =>
    intro vde vcx
    have hedge := congrArg (Host.Outcome.next (φ := Fault) (ρ := Refusal)) (videoCycle_edge hrun hprev vd vhs vde vcx)
    cases vde with
    | true => cases vcx <;> exact hedge
    | false =>
      cases vcx with
      | true => exact hedge
      | false =>
        rw [exec_frameStart hrun hprev, passCycle_low, pushCycle_eq]
        show _ = Host.Outcome.next (State.withVpl _ (pushCycle _ _))
        rw [pushCycle_eq]
        rfl
  case refine_2 =>
    intro hline
    have hmeasured : consistent s.vpl.record = true ↔ measured := consistent_iff _
    have hgood : consistent s.vpl.record = true ∧ withinLimits s.vpl.record = true ↔ good :=
      and_congr hmeasured (withinLimits_iff _)
    have hjudged (lock : LockState) (hlock : s.vpl.lock = lock) :
        frameStart s = beginFrame (judgeFrameEnd lock s) := by rw [frameStart, closeLine_none hline, hlock]
    refine ⟨fun hunlocked => ?_, fun hlock hm hcand => ?_, fun hlock hlines => ?_, fun hlock hlines => ?_, fun hlock => ?_⟩
    · have hsearch : frameStart s = beginFrame (judgeSearch s) := by
        rcases hunlocked with hlock | ⟨hlock, hother⟩
        · exact hjudged .search hlock
        · rw [hjudged .confirm hlock, judgeFrameEnd, judgeConfirm_other fun h => hother (h.imp_left hmeasured.mp)]
      refine ⟨fun hg => ?_, fun hg => ?_⟩
      · rw [hsearch, judgeSearch_good (hgood.mpr hg)]
        rfl
      · rw [hsearch, judgeSearch_bad fun h => hg (hgood.mp h)]
        rfl
    · rw [hjudged .confirm hlock, judgeFrameEnd, judgeConfirm_match (hmeasured.mpr hm) hcand, beginFrame, offer_vpl]
      exact (offered_withVpl _ _ [⟨0, .link .locked .acquired none 0 r.firstLength r.lines⟩]).symm
    · rw [frameStart_kept ((isLocked_iff s).mpr hlock) hline hlines]
      rw [← hlock]
      rfl
    · rw [frameStart_short ((isLocked_iff s).mpr hlock) hline hlines]
      exact (lockFault_spec ..).1.begun.then_vpl rfl rfl rfl rfl rfl
    · rw [hjudged .lost hlock]
      rfl
  case refine_3 =>
    intro hline hwidth
    have hrun0 : s.vpl.run ≠ 0 := by omega
    refine ⟨_, exec_lineEnd hrun nofun, fun vde vcx => ?_⟩
    have hsame : (passCycle ⟨vd, vhs, false, false, false⟩ (closeLine s)).withVpl
        { (passCycle ⟨vd, vhs, false, false, false⟩ (closeLine s)).vpl with
          path := s.vpl.path, out := s.vpl.out, prevVvs := false } = closeLine s := by
      have hvpl : { (closeLine s).vpl with path := s.vpl.path, out := s.vpl.out, prevVvs := false } =
          (closeLine s).vpl := by
        rw [closeLine_vpl hrun0 hwidth, ← hprev]
        rfl
      rw [passCycle_low, State.withVpl_vpl, State.withVpl_withVpl, pushCycle_eq]
      exact congrArg (closeLine s).withVpl hvpl
    show Host.Outcome.next (videoCycle ⟨vd, vhs, true, vde, vcx⟩ s) =
      Host.Outcome.next (videoCycle ⟨vd, vhs, true, vde, vcx⟩ (State.withVpl _ _))
    rw [hsame, videoCycle_edge hrun hprev, videoCycle_edge ((closeLine_resetAsserted s).trans hrun)
      (by rw [closeLine_vpl hrun0 hwidth]; exact hprev), frameStart_closeLine hrun0 hwidth]
  case refine_4 =>
    intro hline hlock hshort
    rw [frameStart_cut ((isLocked_iff s).mpr hlock) hline hshort]
    exact (lockFault_spec ..).1.of_lineEntered.begun.then_vpl rfl rfl rfl rfl rfl

end Sys2Proof.Machine

/-! The active start is the apply point, the blink step and the latch (R11, R13, R140, R143), and the delay of R1. -/

namespace Sys2Proof.Machine

/-! ## The active start (R11) -/

/-- Changes that become current leave the published result. -/
theorem ChangesCurrent.published {s t : State} (h : ChangesCurrent s t) : t.sse.published = s.sse.published := by
  obtain ⟨-, -, -, -, -, -, -, -, -, -, -, -, -, hasked, hnot, -⟩ := h
  by_cases ha : applySearches s
  · obtain ⟨hidle, hbusy⟩ := hasked ha
    cases hf : s.sse.flight with
    | none =>
      obtain ⟨-, p, -, -, hsse⟩ := hidle hf
      rw [hsse]
    | some f => rw [(hbusy (hf ▸ nofun)).2]
  · rw [(hnot ha).1]

theorem ChangesCurrent.gcu {s t : State} (h : ChangesCurrent s t) : t.gcu = s.gcu := by
  obtain ⟨-, -, -, -, -, -, -, -, -, -, -, -, -, -, -, hgcu⟩ := h
  exact hgcu

/-- The blink step of an active start, after the notice of a period that became current (R143). -/
theorem blinkStep_ovc {s : State} {o : Ovc} {p : Bool} (h : s.ovc = { o with
    phase := if p then 0 else o.phase, restart := p || o.restart }) :
    (blinkStep s).ovc = { o with
      phase := if p then 0 else if o.restart then o.phase else (o.phase + 1) % blinkPeriod (settings s)
      restart := false } := by
  cases p with
  | true => simp [blinkStep, h]
  | false => cases hr : o.restart <;> simp [blinkStep, h, hr]

/-- Settles O24. -/
theorem activeStartIsTheApplyPoint : Obligations.ActiveStartIsTheApplyPoint := by
  intro vd vhs vvs s hrun hawait hedge blink
  refine ⟨fun hlock hline hlines hwidth hheight => ?_, fun hlock hwindow => ?_⟩
  case refine_1 =>
    obtain ⟨hcurrent, hnone, hoffered, hovc, hpds, hvpl, -⟩ := applyPoint_spec s
    have hpublished := hcurrent.published
    have hgcu := hcurrent.gcu
    have hlocked := (isLocked_iff s).mpr hlock
    refine ⟨_, exec_pixelCycle hrun hedge, ?_⟩
    rw [pixelCount_await hawait, activeStart_locked hlocked]
    generalize applyPoint s = w at *
    have hcounted : min (s.vpl.run + 1) 4095 = 0 + 1 := by rw [hline]; rfl
    have hsettings : w.pds.settings = applySettings s.pds.settings := by rw [hpds]
    rw [pixelCount_plain rfl (fun _ _ => by show s.vpl.record.lines ≠ s.vpl.height; omega)
      (fun _ => by show s.vpl.run ≠ s.vpl.width; omega), passCycle_answered (x := 0) rfl hcounted]
    refine ⟨hcurrent, hnone, hoffered, hpds.trans ?_, hpublished, ?_, ?_⟩
    · show _ = ({ s.pds with settings := w.pds.settings, fence := [], reportOverrun := w.pds.reportOverrun } : Pds)
      rw [hsettings]
    · have hlatch : latchOf (blinkStep w) = { latchOf w with phase := (blinkStep w).ovc.phase } := rfl
      show (takeLatch (blinkStep w)).ovc = _
      simp only [takeLatch, hlatch, State.withOvc_ovc, blinkStep_ovc hovc]
      simp only [latchOf, hpublished, hgcu, hvpl]
      rfl
    · rw [State.withVpl_vpl, pushCycle_eq, pushCycle_eq]
      simp only [pixelCounted, State.withVpl_vpl, hcounted, hlines]
      rfl
  case refine_2 =>
    have hnot : isLocked s = false := (isLocked_eq_false_iff s).mpr hlock
    have hstart := activeStart_unlocked hnot
    have hfalse : isLocked ((blinkStep s).withVpl { s.vpl with awaitActive := false }) ≠ true :=
      fun h => hlock ((isLocked_iff _).mp h)
    rw [exec_pixelCycle hrun hedge, pixelCount_await hawait, hstart,
      pixelCount_plain rfl (fun h => absurd h hfalse) (fun h => absurd h hfalse), passCycle_pixel (by exact hwindow),
      pushCycle_eq, pushCycle_eq]
    have hblink : (blinkStep s).ovc = { s.ovc with
        phase := if s.ovc.restart then s.ovc.phase else (s.ovc.phase + 1) % blinkPeriod (settings s)
        restart := false } := blinkStep_ovc (p := false) (o := s.ovc) rfl
    have hstep : blinkStep s = s.withOvc _ := congrArg s.withOvc hblink
    rw [hstep]
    rfl

/-! ## The delay (R1, R13) -/

theorem restoreNewest_zero (path : List PathCycle) : restoreNewest 0 path = path := by
  simp [restoreNewest, List.mapIdx_eq_zipIdx_map]

/-- A held cycle after the newest `n` are given back. -/
theorem restoreNewest_getElem? (n : Nat) (path : List PathCycle) (i : Nat) :
    (restoreNewest n path)[i]? = path[i]?.map fun c => if i < n then { c with outVd := c.vd } else c :=
  List.getElem?_mapIdx

/-- What an event does to the held cycles: at most `n` of the newest are given back, and only by a WIDTH fault that ends the
lock; the output stays. -/
def PathCut (n : Nat) (s t : State) : Prop :=
  t.vpl.out = s.vpl.out ∧
  ∃ k ≤ n, t.vpl.path = restoreNewest k s.vpl.path ∧ (0 < k → s.vpl.lock = .locked ∧ t.vpl.lock ≠ .locked)

theorem PathCut.of_same {n : Nat} {s t : State} (hout : t.vpl.out = s.vpl.out) (hpath : t.vpl.path = s.vpl.path) :
    PathCut n s t := ⟨hout, 0, Nat.zero_le n, by rw [restoreNewest_zero, hpath], nofun⟩

theorem PathCut.of_vpl {n : Nat} {s t : State} (h : t.vpl = s.vpl) : PathCut n s t := .of_same (by rw [h]) (by rw [h])

theorem pathCut_lockFault {s : State} (hlock : isLocked s = true) (fault : LockFault) (line restore : Nat) :
    PathCut restore s (lockFault fault line restore s) := by
  rw [PathCut, (lockFault_spec ..).2]
  exact ⟨rfl, restore, Nat.le_refl _, rfl, fun _ => ⟨(isLocked_iff s).mp hlock, nofun⟩⟩

theorem pathCut_closeLine (s : State) : PathCut s.vpl.run s (closeLine s) := by
  by_cases hrun : s.vpl.run = 0
  · exact .of_vpl (by rw [closeLine_none hrun])
  · cases hlock : isLocked s with
    | false => rw [closeLine_unlocked hrun hlock]; exact .of_same rfl rfl
    | true =>
      rw [closeLine_locked hrun hlock]
      split
      · exact pathCut_lockFault (s := lineEntered s) hlock ..
      · split
        · rw [activeEnd_eq]; exact .of_same rfl rfl
        · exact .of_same rfl rfl

/-- A judgement gives no cycle back, and leaves a state that has just lost the lock. -/
theorem judgeFrameEnd_path (was : LockState) (s : State) :
    (judgeFrameEnd was s).vpl.out = s.vpl.out ∧ (judgeFrameEnd was s).vpl.path = s.vpl.path ∧
    (was = .locked → s.vpl.lock ≠ .locked → (judgeFrameEnd was s).vpl.lock ≠ .locked) := by
  have hsearch : (judgeSearch s).vpl.out = s.vpl.out ∧ (judgeSearch s).vpl.path = s.vpl.path := by
    unfold judgeSearch
    dsimp only
    split <;> exact ⟨rfl, rfl⟩
  unfold judgeFrameEnd
  split
  · exact ⟨hsearch.1, hsearch.2, nofun⟩
  · unfold judgeConfirm
    dsimp only
    split
    · rw [offer_vpl]; exact ⟨rfl, rfl, nofun⟩
    · exact ⟨hsearch.1, hsearch.2, nofun⟩
  · split
    · rw [(lockFault_spec ..).2]
      exact ⟨rfl, restoreNewest_zero _, fun _ _ => nofun⟩
    · exact ⟨rfl, rfl, fun _ h => h⟩
  · exact ⟨rfl, rfl, nofun⟩

theorem pathCut_frameStart (s : State) : PathCut s.vpl.run s (frameStart s) := by
  obtain ⟨hout, k, hk, hpath, hcut⟩ := pathCut_closeLine s
  obtain ⟨hout2, hpath2, hstays⟩ := judgeFrameEnd_path s.vpl.lock (closeLine s)
  exact ⟨hout2.trans hout, k, hk, hpath2.trans hpath, fun h => ⟨(hcut h).1, hstays (hcut h).1 (hcut h).2⟩⟩

/-- An active start leaves the held cycles, the line under way and the lock. -/
theorem activeStart_vpl (s : State) : (activeStart s).vpl.out = s.vpl.out ∧ (activeStart s).vpl.path = s.vpl.path ∧
    (activeStart s).vpl.run = s.vpl.run ∧ (activeStart s).vpl.lock = s.vpl.lock ∧
    (activeStart s).vpl.awaitActive = false := by
  cases hlock : isLocked s with
  | false => rw [activeStart_unlocked hlock]; exact ⟨rfl, rfl, rfl, rfl, rfl⟩
  | true => rw [activeStart_locked hlock]; exact ⟨rfl, rfl, rfl, rfl, rfl⟩

/-- A pixel gives back at most the cycles of its line, and does not enter LOCKED. -/
theorem pathCut_pixelCount (s : State) :
    PathCut s.vpl.run s (pixelCount s) ∧ (s.vpl.lock ≠ .locked → (pixelCount s).vpl.lock ≠ .locked) := by
  have hplain (u : State) (hawait : u.vpl.awaitActive = false) :
      PathCut u.vpl.run u (pixelCount u) ∧ (u.vpl.lock ≠ .locked → (pixelCount u).vpl.lock ≠ .locked) := by
    cases hlock : isLocked u with
    | false =>
      rw [pixelCount_plain hawait (fun h => by simp [h] at hlock) fun h => by simp [h] at hlock]
      exact ⟨.of_same rfl rfl, id⟩
    | true =>
      have hlocked := (isLocked_iff u).mp hlock
      refine ⟨?_, fun h => absurd hlocked h⟩
      by_cases hexcess : u.vpl.run = 0 ∧ u.vpl.record.lines = u.vpl.height
      · rw [pixelCount_excess hawait hlock hexcess.1 hexcess.2, hexcess.1]
        exact pathCut_lockFault hlock ..
      · by_cases hwidth : u.vpl.run = u.vpl.width
        · rw [pixelCount_long hawait hlock (fun h0 h1 => hexcess ⟨h0, h1⟩) hwidth]
          exact pathCut_lockFault hlock ..
        · rw [pixelCount_plain hawait (fun _ h0 h1 => hexcess ⟨h0, h1⟩) fun _ => hwidth]
          exact .of_same rfl rfl
  cases hawait : s.vpl.awaitActive with
  | false => exact hplain s hawait
  | true =>
    obtain ⟨hout, hpath, hrun, hlock, hdone⟩ := activeStart_vpl s
    have h := hplain (activeStart s) hdone
    rw [PathCut, hout, hpath, hrun, hlock] at h
    rw [pixelCount_await hawait]
    exact h

/-- The events of an input cycle give back at most the cycles of the line under way. -/
theorem pathCut_cycleEvents (c : VideoIn) (s : State) : PathCut s.vpl.run s (cycleEvents c s) := by
  have hflag (u : State) (h : PathCut s.vpl.run s u) : PathCut s.vpl.run s (if c.vde && c.vcx then setLinkErr u else u) := by
    split
    · exact h
    · exact h
  unfold cycleEvents
  dsimp only
  refine hflag _ ?_
  cases c.vvs && !s.vpl.prevVvs with
  | true =>
    cases c.vde with
    | false => exact pathCut_frameStart s
    | true =>
      obtain ⟨hout, k, hk, hpath, hcut⟩ := pathCut_frameStart s
      obtain ⟨⟨hout2, k2, hk2, hpath2, -⟩, hstays⟩ := pathCut_pixelCount (frameStart s)
      obtain rfl : k2 = 0 := Nat.le_zero.mp hk2
      rw [restoreNewest_zero] at hpath2
      exact ⟨hout2.trans hout, k, hk, hpath2.trans hpath, fun h => ⟨(hcut h).1, hstays (hcut h).2⟩⟩
  | false =>
    cases c.vde with
    | false => exact pathCut_closeLine s
    | true => exact (pathCut_pixelCount s).1

/-- An input cycle enters the path with its levels, after its events may have given cycles back. -/
theorem exec_video {c : Instr} {vhs vvs vde : Bool} (h : videoLevels c = some (vhs, vvs, vde)) (s : State) :
    ∃ t, exec c s = .next t ∧ ∃ (entered : PathCycle) (k : Nat),
      entered.vhs = vhs ∧ entered.vvs = vvs ∧ entered.vde = vde ∧ k ≤ s.vpl.run ∧
      (0 < k → s.vpl.lock = .locked ∧ t.vpl.lock ≠ .locked) ∧
      t.vpl.path = pushedPath entered (restoreNewest k s.vpl.path) ∧
      t.vpl.out = pushedOut entered (restoreNewest k s.vpl.path) s.vpl.out := by
  obtain ⟨vd, vcx, hexec⟩ : ∃ vd vcx, exec c s = .next (videoCycle ⟨vd, vhs, vvs, vde, vcx⟩ s) := by
    cases c <;> cases h <;> exact ⟨_, _, rfl⟩
  obtain ⟨u, hvpl, hout, k, hk, hpath, hcut⟩ : ∃ u : State,
      (videoCycle ⟨vd, vhs, vvs, vde, vcx⟩ s).vpl = (passCycle ⟨vd, vhs, vvs, vde, vcx⟩ u).vpl ∧
        PathCut s.vpl.run s u := by
    cases hrun : s.resetAsserted with
    | true => exact ⟨s, by rw [videoCycle_asserted hrun], .of_vpl rfl⟩
    | false =>
      refine ⟨cycleEvents ⟨vd, vhs, vvs, vde, vcx⟩ s, ?_, pathCut_cycleEvents _ s⟩
      simp only [videoCycle, hrun, Bool.false_eq_true, if_false]
      split
      · exact (quiet_takeControlBytes ..).vpl
      · rfl
  refine ⟨_, hexec, ⟨vd, vhs, vvs, vde, outputVd ⟨vd, vhs, vvs, vde, vcx⟩ u⟩, k, rfl, rfl, rfl, hk, ?_⟩
  rw [hvpl, passCycle, State.withVpl_vpl, pushCycle_eq, hpath, hout]
  exact ⟨hcut, rfl, rfl⟩

theorem pushedPath_length {path : List PathCycle} (h : path.length ≤ 2624) (c : PathCycle) :
    (pushedPath c path).length ≤ 2624 := by
  unfold pushedPath
  split
  · exact ‹path.length < 2624›
  · rw [List.length_cons, List.length_dropLast]; omega

/-- The levels of a held cycle. -/
def levels (c : PathCycle) : Bool × Bool × Bool := (c.vhs, c.vvs, c.vde)

theorem levels_restoreNewest {k i : Nat} {path : List PathCycle} {q : PathCycle} (h : path[i]? = some q) :
    ∃ p, (restoreNewest k path)[i]? = some p ∧ levels p = levels q := by
  rw [restoreNewest_getElem?, h]
  refine ⟨_, rfl, ?_⟩
  split <;> rfl

/-- A cycle held at place `i` leaves with its levels after `2624 - i` more input cycles. -/
theorem runCommands_levels {cs : List Instr} (hvideo : ∀ d ∈ cs, isVideo d = true) {s : State} (hok : PathOk s)
    {i : Nat} {q : PathCycle} (hq : s.vpl.path[i]? = some q) (hlen : cs.length + i = 2624) :
    ∃ t, runCommands cs s = some t ∧ (t.vpl.out.vhs, t.vpl.out.vvs, t.vpl.out.vde) = levels q := by
  have hi : i < s.vpl.path.length := (List.getElem?_eq_some_iff.mp hq).1
  induction cs generalizing s i q with
  | nil => simp at hlen; omega
  | cons d cs ih =>
    obtain ⟨⟨vhs, vvs, vde⟩, hd⟩ := Option.isSome_iff_exists.mp (hvideo d List.mem_cons_self)
    obtain ⟨t, hexec, entered, k, -, -, -, -, -, hpath, hout⟩ := exec_video hd s
    obtain ⟨p, hp, hlevels⟩ := levels_restoreNewest (k := k) hq
    have hlength := restoreNewest_length k s.vpl.path
    simp only [runCommands, hexec]
    generalize restoreNewest k s.vpl.path = held at hp hlength hpath hout
    rw [← hlevels]
    have hle : held.length ≤ 2624 := hlength.trans_le hok
    rcases Nat.lt_or_ge i 2623 with hlt | hge
    · have hnext : t.vpl.path[i + 1]? = some p := by
        rw [hpath, pushedPath]
        split
        · exact hp
        · rw [List.getElem?_cons_succ, List.getElem?_dropLast, if_pos (by omega), hp]
      have hokt : PathOk t := by
        rw [PathOk, hpath]
        exact pushedPath_length hle entered
      exact ih (fun e he => hvideo e (List.mem_cons_of_mem d he)) hokt hnext (by simp at hlen; omega)
        (List.getElem?_eq_some_iff.mp hnext).1
    · have hfull : held.length = 2624 := by omega
      have hnil : cs = [] := List.length_eq_zero_iff.mp (by simp at hlen; omega)
      have hlast : held.getLastD entered = p := by
        rw [List.getLastD_eq_getLast?, List.getLast?_eq_getElem?, show held.length - 1 = i by omega, hp]
        rfl
      refine ⟨t, by rw [hnil]; rfl, ?_⟩
      rw [hout, pushedOut, if_neg (by omega), hlast]
      rfl

/-- Settles O12. -/
theorem outputFollowsInputBy2624Cycles : Obligations.OutputFollowsInputBy2624Cycles := by
  intro c cs s vhs vvs vde hok hc hlen hvideo
  obtain ⟨t, hexec, entered, k, hhs, hvs, hde, hk, hcut, hpath, hout⟩ := exec_video hc s
  refine ⟨?_, t, hexec, entered, restoreNewest k s.vpl.path, hhs, hvs, hde, restoreNewest_length .., ?_, ?_, ?_⟩
  · have hfront : t.vpl.path[0]? = some entered := by rw [← List.head?_eq_getElem?, hpath, pushedPath_head]
    have hokt : PathOk t := by
      rw [PathOk, hpath]
      exact pushedPath_length ((restoreNewest_length ..).trans_le hok) entered
    obtain ⟨u, hrun, hlevels⟩ := runCommands_levels hvideo hokt hfront hlen
    obtain ⟨h1, h2, h3⟩ : u.vpl.out.vhs = entered.vhs ∧ u.vpl.out.vvs = entered.vvs ∧ u.vpl.out.vde = entered.vde := by
      simpa [levels] using hlevels
    refine ⟨u, ?_, h1.trans hhs, h2.trans hvs, h3.trans hde⟩
    rw [runCommands, hexec]
    exact hrun
  · intro i p q hp hq
    rw [restoreNewest_getElem?, hp] at hq
    cases hq
    by_cases hik : i < k
    · exact .inr ⟨if_pos hik, by omega, hcut (by omega)⟩
    · exact .inl (if_neg hik)
  · intro hroom
    have hroom2 : (restoreNewest k s.vpl.path).length < 2624 := by rwa [restoreNewest_length]
    rw [hpath, hout, pushedPath, pushedOut, if_pos hroom2, if_pos hroom2]
    exact ⟨rfl, rfl⟩
  · intro rest oldest hfull hkept
    have hfull2 : ¬(restoreNewest k s.vpl.path).length < 2624 := by rw [restoreNewest_length]; omega
    rw [hpath, hout, pushedPath, pushedOut, if_neg hfull2, if_neg hfull2, hkept, List.dropLast_concat]
    simp

end Sys2Proof.Machine

/-! The packet decoder (R14 to R18), the lengths of R176, and the packets that are answered at once: READ, STATUS, SYNC. -/

namespace Sys2Proof.Machine

/-! ## The walk over the pairs of a SET (R176) -/

/-- The bytes of the value behind a field code. -/
def pairSize (group code : Byte) : Nat := if group = 2 ∧ code = 2 then 8 else 4

/-- The value a pair carries. -/
def pairValue (group code : Byte) (bytes : List Byte) : Int :=
  if group = 2 ∧ code = 2 then natOfBytes (bytes.take 8) else int32OfBytes (bytes.take 4)

theorem wide_iff (group code : Byte) : (group == 2 && code == 2) = true ↔ group = 2 ∧ code = 2 := by
  rw [Bool.and_eq_true, beq_iff_eq, beq_iff_eq]

theorem walkPairs_succ (group : Byte) (fuel : Nat) (code : Byte) (rest : List Byte) :
    walkPairs group (fuel + 1) (code :: rest) =
      if rest.length < pairSize group code then none
      else (walkPairs group fuel (rest.drop (pairSize group code))).map fun pairs =>
        (code, pairValue group code rest) :: pairs := by
  rw [walkPairs]
  by_cases h : group = 2 ∧ code = 2
  · simp only [(wide_iff group code).mpr h, pairSize, pairValue, if_pos h, if_true]
  · simp only [Bool.eq_false_iff.mpr fun w => h ((wide_iff group code).mp w), pairSize, pairValue, if_neg h,
      Bool.false_eq_true, if_false]

/-- The walk does not depend on its bound, once that is enough. -/
theorem walkPairs_eq_setPairs (group : Byte) {fuel : Nat} {rest : List Byte} (h : rest.length ≤ fuel) :
    walkPairs group fuel rest = setPairs group rest := by
  have hboth : ∀ (n m : Nat) (l : List Byte), l.length ≤ n → l.length ≤ m → walkPairs group n l = walkPairs group m l := by
    intro n
    induction n with
    | zero =>
      intro m l hn _
      rw [List.length_eq_zero_iff.mp (Nat.le_zero.mp hn)]
      cases m <;> rfl
    | succ n ih =>
      intro m l hn hm
      cases l with
      | nil => cases m <;> rfl
      | cons code tail =>
        obtain ⟨m, rfl⟩ : ∃ k, m = k + 1 := ⟨m - 1, by simp at hm; omega⟩
        simp only [List.length_cons, Nat.add_le_add_iff_right] at hn hm
        rw [walkPairs_succ, walkPairs_succ, ih m _ (by rw [List.length_drop]; omega) (by rw [List.length_drop]; omega)]
  exact hboth fuel rest.length rest h (Nat.le_refl _)

theorem setPairs_nil (group : Byte) : setPairs group [] = some [] := rfl

theorem setPairs_cons (group code : Byte) (tail : List Byte) :
    setPairs group (code :: tail) =
      if tail.length < pairSize group code then none
      else (setPairs group (tail.drop (pairSize group code))).map fun pairs =>
        (code, pairValue group code tail) :: pairs := by
  rw [setPairs, List.length_cons, walkPairs_succ, walkPairs_eq_setPairs]
  rw [List.length_drop]
  omega

/-! ## Refusals by class and length (R17, R18) -/

section
variable {s : State} {tag : Byte} {payload : List Byte}

/-- A packet of a known class and a length that its class does not allow is refused with LENGTH. -/
theorem takeClass_length {c : PacketClass} (h : ¬lengthOk c payload = true) :
    takeClass c tag payload s = offer tag (.error (classCode c) .length none) s := if_neg h

theorem whileRunning_length (hrun : Running s) {c : PacketClass} (h : ¬lengthOk c payload = true) :
    whileRunning (takeClass c tag payload) s = .next (offer tag (.error (classCode c) .length none) s) := by
  rw [whileRunning_running hrun, takeClass_length h]

end

theorem classOf_none {cls : Byte} (h : cls ∉ classCodes) : classOf cls = none := by
  rw [classOf, List.find?_eq_none]
  intro c _ hc
  have hmem : classCode c ∈ classCodes := by cases c <;> decide
  exact h (beq_iff_eq.mp hc ▸ hmem)

/-- A class that wants a payload of `n` bytes. -/
theorem not_lengthOk_of_ne {c : PacketClass} {n : Nat} {payload : List Byte}
    (hc : ∀ l : List Byte, lengthOk c l = (decide (l.length ≤ 240) && l.length == n)) (h : payload.length ≠ n) :
    ¬lengthOk c payload = true := by
  rw [hc, Bool.and_eq_true, beq_iff_eq]
  exact fun hok => h hok.2

/-- The size of a target's LOAD_BEGIN, target byte included (R176). -/
theorem targetOf_eq (b : Byte) : targetOf b = if b.toNat = 0 then some .snap0 else if b.toNat = 1 then some .snap1
    else if b.toNat = 2 then some .ghost else if b.toNat = 3 then some .directions
    else if b.toNat = 4 then some .glyph else none := by
  unfold targetOf
  split <;> simp_all

/-- Settles O15. -/
theorem unknownClassesAndWrongLengthsAreRefused : Obligations.UnknownClassesAndWrongLengthsAreRefused := by
  intro tag payload s hrun refused
  refine ⟨fun cls hcls => ?_, fun hne => ?_, fun hne => ?_, fun hne => ?_, fun hne => ?_, fun hnil => ?_, fun hlt => ?_,
    fun hlt => ?_, fun hlt => ?_, fun group rest => ?_, fun target rest h => ?_, fun target i1 i0 data h => ?_,
    fun kind flags rest h => ?_⟩
  · show whileRunning _ s = _
    rw [whileRunning_running hrun, takePacket, classOf_none hcls]
    rfl
  · have hlen : payload.length ≠ 0 := fun h => hne (List.length_eq_zero_iff.mp h)
    exact ⟨whileRunning_length hrun (not_lengthOk_of_ne (fun _ => rfl) hlen),
      whileRunning_length hrun (not_lengthOk_of_ne (fun _ => rfl) hlen),
      whileRunning_length hrun (not_lengthOk_of_ne (fun _ => rfl) hlen),
      whileRunning_length hrun (not_lengthOk_of_ne (fun _ => rfl) hlen),
      whileRunning_length hrun (not_lengthOk_of_ne (fun _ => rfl) hlen)⟩
  · exact ⟨whileRunning_length hrun (not_lengthOk_of_ne (fun _ => rfl) hne),
      whileRunning_length hrun (not_lengthOk_of_ne (fun _ => rfl) hne)⟩
  · exact whileRunning_length hrun (not_lengthOk_of_ne (fun _ => rfl) hne)
  · exact whileRunning_length hrun (not_lengthOk_of_ne (fun _ => rfl) hne)
  · rw [hnil]
    exact ⟨whileRunning_length hrun nofun, whileRunning_length hrun nofun⟩
  · refine whileRunning_length hrun ?_
    match payload, hlt with
    | [], _ | [_], _ | [_, _], _ => nofun
  · refine whileRunning_length hrun ?_
    match payload, hlt with
    | [], _ | [_], _ => nofun
  · refine whileRunning_length hrun fun hok => ?_
    have hle := (lengthOk_echo_iff payload).mp hok
    omega
  · refine ⟨fun hwalk => whileRunning_length hrun ?_, rfl, fun code tail => ?_⟩
    · simp [lengthOk, hwalk]
    · rw [setPairs_cons]
      refine ⟨fun hlt => if_pos hlt, fun hle => ?_⟩
      rw [if_neg (show ¬tail.length < pairSize group code from Nat.not_lt.mpr hle), Option.map_eq_none_iff]
      rfl
  · refine whileRunning_length hrun ?_
    rw [lengthOk, targetOf_eq]
    rcases h with ⟨ht, hn⟩ | ⟨ht, ht2, hn⟩ | ⟨rfl, hn⟩
    · obtain h0 | h1 : target.toNat = 0 ∨ target.toNat = 1 := by omega
      · simp [h0, hn]
      · simp [h1, hn]
    · obtain h2 | h3 : target.toNat = 2 ∨ target.toNat = 3 := by omega
      · simp [h2, hn]
      · simp [h3, hn]
    · simp [hn]
  · refine whileRunning_length hrun ?_
    rw [lengthOk, targetOf_eq]
    rcases h with ⟨ht, hn⟩ | ⟨rfl, hn⟩ | ⟨rfl, hn⟩ | ⟨rfl, hn⟩
    · obtain h0 | h1 : target.toNat = 0 ∨ target.toNat = 1 := by omega
      · simp [h0, recordSize, hn]
      · simp [h1, recordSize, hn]
    · simp [recordSize, hn]
    · simp [recordSize, hn]
    · simp [recordSize, hn]
  · refine whileRunning_length hrun fun hok => ?_
    simp only [lengthOk, Bool.and_eq_true] at hok
    obtain ⟨-, hok⟩ := hok
    rcases h with hodd | ⟨hflag, hshort⟩
    · split at hok <;> simp at hok <;> omega
    · rw [if_pos hflag] at hok
      simp at hok
      omega

/-! ## The receive states (R14 to R16) -/

theorem takeControlBytes_cons (b : Byte) (bytes : List Byte) (s : State) :
    takeControlBytes (b :: bytes) s = takeControlBytes bytes (takeControlByte b s) := rfl

theorem takeControlBytes_append (x y : List Byte) (s : State) :
    takeControlBytes (x ++ y) s = takeControlBytes y (takeControlBytes x s) := List.foldl_append

section
variable {s : State}

/-- In HUNT every byte but the lead is discarded. -/
theorem takeControlByte_idle (hhunt : s.pds.receive = .hunt) {b : Byte} (hb : b ≠ 0xB6) : takeControlByte b s = s := by
  simp only [takeControlByte, hhunt]
  exact if_neg hb

theorem takeControlBytes_idle (hhunt : s.pds.receive = .hunt) (n : Nat) :
    takeControlBytes (List.replicate n 0) s = s := by
  induction n with
  | zero => rfl
  | succ n ih => rw [List.replicate_succ, takeControlBytes_cons, takeControlByte_idle hhunt (by decide), ih]

theorem setReceive_hunt (hhunt : s.pds.receive = .hunt) (r : Receive) : setReceive .hunt (setReceive r s) = s := by
  rw [← hhunt]
  rfl

/-- From HUNT the lead, class and length bytes of a packet are taken. -/
theorem takeControlBytes_head (hhunt : s.pds.receive = .hunt) (cls : Byte) :
    takeControlBytes [0xB6, cls] s = setReceive (.length cls) s := by
  simp only [takeControlBytes, List.foldl_cons, List.foldl_nil, takeControlByte, hhunt]
  rfl

/-- A payload is collected byte by byte (R14). -/
theorem takeControlBytes_payload (cls len tag : Byte) :
    ∀ (rest got : List Byte), rest ≠ [] → got.length + rest.length = len.toNat →
      takeControlBytes rest (setReceive (.payload cls len tag got) s) =
        setReceive (.check cls len tag (got ++ rest)) s := by
  intro rest
  induction rest with
  | nil => exact fun _ h => absurd rfl h
  | cons b rest ih =>
    intro got _ hlen
    rw [List.length_cons] at hlen
    have hstep : takeControlByte b (setReceive (.payload cls len tag got) s) = setReceive
        (if (got ++ [b]).length < len.toNat then .payload cls len tag (got ++ [b]) else .check cls len tag (got ++ [b])) s := rfl
    rw [takeControlBytes_cons, hstep, List.length_append, List.length_singleton]
    by_cases hnil : rest = []
    · rw [hnil, if_neg (by rw [hnil, List.length_nil] at hlen; omega)]
      rfl
    · have hpos := List.length_pos_iff.mpr hnil
      rw [if_pos (by omega), ih _ hnil (by rw [List.length_append, List.length_singleton]; omega), List.append_assoc]
      rfl

/-- From HUNT the bytes of a whole packet are judged by their sum (R15). -/
theorem takeControlBytes_packet (hhunt : s.pds.receive = .hunt) (cls tag check : Byte) {payload : List Byte}
    (hlen : payload.length ≤ 240) :
    takeControlBytes (0xB6 :: cls :: BitVec.ofNat 8 payload.length :: tag :: (payload ++ [check])) s =
      if packetSum cls (BitVec.ofNat 8 payload.length) tag payload check = 0 then takePacket cls tag payload s
      else checkError s := by
  generalize hl : BitVec.ofNat 8 payload.length = len
  have htoNat : len.toNat = payload.length := by rw [← hl, BitVec.toNat_ofNat]; omega
  have hhead : takeControlBytes [0xB6, cls, len, tag] s =
      setReceive (if len = 0 then .check cls len tag [] else .payload cls len tag []) s := by
    have hfits : len.toNat ≤ Config.payloadMax := htoNat ▸ hlen
    rw [show [0xB6, cls, len, tag] = [0xB6, cls] ++ [len, tag] from rfl, takeControlBytes_append,
      takeControlBytes_head hhunt]
    show takeControlByte tag (if len.toNat ≤ Config.payloadMax then _ else _) = _
    rw [if_pos hfits]
    rfl
  have hbody : takeControlBytes payload
      (setReceive (if len = 0 then .check cls len tag [] else .payload cls len tag []) s) =
      setReceive (.check cls len tag payload) s := by
    by_cases hzero : len = 0
    · have hnil : payload = [] := List.length_eq_zero_iff.mp (by rw [← htoNat, hzero]; rfl)
      rw [if_pos hzero, hnil]
      rfl
    · have hne : payload ≠ [] := fun h => hzero (by rw [← hl, h]; rfl)
      rw [if_neg hzero, takeControlBytes_payload cls len tag payload [] hne (by rw [List.length_nil]; omega)]
      rfl
  rw [show 0xB6 :: cls :: len :: tag :: (payload ++ [check]) = [0xB6, cls, len, tag] ++ (payload ++ [check]) from rfl,
    takeControlBytes_append, takeControlBytes_append, hhead, hbody]
  show judgePacket cls len tag payload check _ = _
  rw [judgePacket, setReceive_hunt hhunt]

/-- A length byte above 240 is refused at once (R15; log entry 25). -/
theorem takeControlBytes_long (hhunt : s.pds.receive = .hunt) (cls : Byte) {len : Byte} (hlen : 240 < len.toNat) :
    takeControlBytes [0xB6, cls, len] s = checkError s := by
  rw [show [0xB6, cls, len] = [0xB6, cls] ++ [len] from rfl, takeControlBytes_append, takeControlBytes_head hhunt]
  show (if len.toNat ≤ Config.payloadMax then _ else checkError (setReceive .hunt (setReceive _ s))) = _
  rw [if_neg (show ¬len.toNat ≤ Config.payloadMax from Nat.not_le.mpr hlen), setReceive_hunt hhunt]

end

/-! ## The bytes of CONTEXT and RESET (R176) -/

/-- Bits 3:2 and 1:0 of a CONTEXT byte. -/
theorem contextByte (high : Nat) {op slot : Nat} (hop : op < 4) (hslot : slot < 4) :
    ((BitVec.ofNat 8 (16 * high + 4 * op + slot)).extractLsb' 2 2).toNat = op ∧
    ((BitVec.ofNat 8 (16 * high + 4 * op + slot)).extractLsb' 0 2).toNat = slot := by
  rw [BitVec.extractLsb'_toNat, BitVec.extractLsb'_toNat, BitVec.toNat_ofNat, Nat.shiftRight_eq_div_pow,
    Nat.shiftRight_eq_div_pow]
  omega

/-- The operation of bits 3:2. -/
def contextOpAt (op : Nat) : ContextOp :=
  match op with
  | 0 => .park
  | 1 => .copy
  | 2 => .resume
  | _ => .discard

theorem takePacket_context (high : Nat) {op : Nat} (hop : op < 4) (i : Fin 4) (tag : Byte) (s : State) :
    takePacket 0x24 tag [BitVec.ofNat 8 (16 * high + 4 * op + i.val)] s =
      takeContext (contextOpAt op) tag i s := by
  obtain ⟨hopBits, hslotBits⟩ := contextByte high hop i.isLt
  have hslot : contextSlotOf (BitVec.ofNat 8 (16 * high + 4 * op + i.val)) = i := Fin.ext hslotBits
  show takeContext (contextOpOf _) tag (contextSlotOf _) s = _
  rw [byteAt, List.getD_cons_zero, hslot, contextOpOf, hopBits]
  rfl

theorem scopeOf_none {b : Byte} (h : 4 ≤ b.toNat) : scopeOf b = none := by
  unfold scopeOf
  split <;> simp_all

/-- Settles O14. -/
theorem packetBytesReachTheirOwner : Obligations.PacketBytesReachTheirOwner := by
  intro s
  refine ⟨fun hhunt => ⟨takeControlBytes_idle hhunt, fun _ hb => takeControlByte_idle hhunt hb,
    fun cls tag check payload hlen => ⟨fun hsum => ?_, fun hsum => ?_⟩,
    fun cls len hlen => takeControlBytes_long hhunt cls hlen⟩, ?_⟩
  · rw [takeControlBytes_packet hhunt cls tag check hlen, if_pos (by exact hsum)]
  · rw [takeControlBytes_packet hhunt cls tag check hlen, if_neg (by exact hsum)]
    rfl
  · intro hrun cls tag payload taken
    have hrow (f : State → State) : whileRunning f s = .next (f s) := whileRunning_running hrun f
    have hcontext (op : Nat) (hop : op < 4) (high : Nat) (i : Fin 4) :=
      congrArg (Host.Outcome.next (φ := Fault) (ρ := Refusal)) (takePacket_context high hop i tag s)
    refine ⟨⟨hrow _, hrow _, hrow _, hrow _, hrow _, hrow _, hrow _, hrow _, hrow _, hrow _, hrow _, hrow _, hrow _,
      hrow _, hrow _, hrow _, hrow _⟩, fun high i _ => ⟨(hrow _).trans (hcontext 0 (by decide) high i).symm,
      (hrow _).trans (hcontext 1 (by decide) high i).symm, (hrow _).trans (hcontext 2 (by decide) high i).symm,
      (hrow _).trans (hcontext 3 (by decide) high i).symm⟩, ⟨hrow _, hrow _, hrow _, hrow _⟩, fun b hb => ?_,
      fun hlen => ⟨takeClass_length (c := .context) (not_lengthOk_of_ne (fun _ => rfl) hlen),
        takeClass_length (c := .reset) (not_lengthOk_of_ne (fun _ => rfl) hlen)⟩⟩
    show (match scopeOf b with
      | none => refuseClass tag .reset .field s
      | some .gesture => resetScopeGesture tag s
      | some .tables => resetScopeTables tag s
      | some .settings => resetScopeSettings tag s
      | some .all => resetScopeAll tag s) = _
    rw [scopeOf_none hb]
    rfl

/-! ## READ, STATUS and SYNC (R24, R26, R29) -/

/-- A group byte that names nothing is refused with FIELD. -/
theorem groupOf_none {b : Byte} (h : 12 ≤ b.toNat) : groupOf b = none := by
  unfold groupOf
  split <;> simp_all

/-- Settles O19. -/
theorem readReportsCurrentValues : Obligations.ReadReportsCurrentValues := by
  intro tag group s hrun
  have hexec : exec (.read tag [group]) s = .next (readGroup tag group s) :=
    whileRunning_takeClass hrun (lengthOk_read_singleton group) tag
  refine ⟨fun g hg => ?_, fun hlarge => ?_⟩
  · have hfields : settingFields (settings s) g = (groupCells s.pds.settings g).mapIdx fun i c =>
        ⟨c.current, decide (g = .snap ∧ i = 2), c.pending.isSome⟩ := by
      rw [settingFields]
      congr
      funext i c
      congr 1
      rw [Bool.decide_and]
      rfl
    rw [hexec, readGroup, hg, ← hfields]
  · have hidentity : group ≠ identityCode := fun h => by rw [h] at hlarge; revert hlarge; decide
    have hstatus : group ≠ statusCode := fun h => by rw [h] at hlarge; revert hlarge; decide
    rw [hexec, readGroup, groupOf_none (by omega)]
    simp only [if_neg hidentity, if_neg hstatus]
    rfl

/-- Settles O21. -/
theorem readStatusReportsAndClears : Obligations.ReadStatusReportsAndClears := by
  intro tag s hrun flag lock bank active mark gesture kind values
  have hexec : exec (.readStatus tag) s = .next (readStatus tag s) :=
    whileRunning_takeClass hrun (lengthOk_read_singleton statusCode) tag
  have hactive : bankCode (activeBank s.tbs) = active := by
    show bankCode (if s.tbs.bank0.state = .active then _ else if s.tbs.bank1.state = .active then _ else _) =
      if s.tbs.bank0.state = .active then 0 else if s.tbs.bank1.state = .active then 1 else 2
    split
    · rfl
    · split <;> rfl
  have hmark : markCode s.tbs.mark = mark := by
    match hm : s.tbs.mark with
    | none | some ⟨some .snap0, _⟩ | some ⟨some .snap1, _⟩ | some ⟨none, _⟩ => simp only [mark, hm]; rfl
  have hvalues : statusValues s = values := by
    rw [statusValues, hactive, hmark]
    rfl
  refine ⟨fun hroom => ?_, fun hfull => ?_⟩
  · have hplace : queueFull s = false := by rw [queueFull_eq]; simpa [Room, Config.queueMax] using hroom
    rw [hexec, readStatus, hplace, ← hvalues]
    rfl
  · have hplace : queueFull s = true := by rw [queueFull_eq]; simpa using hfull
    rw [hexec, readStatus, hplace]
    rfl

/-- Settles O22. -/
theorem syncAnswersOrWaits : Obligations.SyncAnswersOrWaits := by
  intro tag s hrun
  have hexec : exec (.sync tag []) s = .next (takeSync tag s) := whileRunning_takeClass hrun rfl tag
  have hwaits (hpending : pendingItem s = true) (hlock : s.vpl.lock = .locked) :
      (pendingItem s && isLocked s) = true := by rw [hpending, (isLocked_iff s).mpr hlock]; rfl
  refine ⟨fun h => ?_, fun hpending hlock hroom => ?_, fun hpending hlock hfull => ?_⟩
  · have hnow : ¬(pendingItem s && isLocked s) = true := by
      rw [Bool.and_eq_true, isLocked_iff]
      exact fun hboth => h.elim (fun hp => by rw [hp] at hboth; exact nomatch hboth.1) fun hl => hl hboth.2
    rw [hexec, takeSync, if_neg hnow]
  · rw [hexec, takeSync, if_pos (hwaits hpending hlock), if_pos (by exact hroom)]
    rfl
  · rw [hexec, takeSync, if_pos (hwaits hpending hlock), if_neg (by exact Nat.not_lt.mpr hfull)]
    rfl

end Sys2Proof.Machine

/-! SET (R20, R21, R23): the value each field is given, which cells are written, and the notices. -/

namespace Sys2Proof.Machine

/-! ## The value a SET gives each field (R21) -/

/-- A field's value in the working copy of a group. -/
def workValue (cells : List FieldCell) (i : Nat) : Int :=
  match cells[i]? with
  | some c => c.pending.getD c.current
  | none => 0

/-- A field's value after the first pass. -/
def firstValue (g : Group) (cells : List FieldCell) (pairs : List (Byte × Int)) (i : Nat) : Int :=
  match placedValue pairs i, (groupSpecs g)[i]? with
  | some v, some f => clampField f v
  | _, _ => workValue cells i

/-- A field's value after both passes. -/
def setValue (g : Group) (cells : List FieldCell) (pairs : List (Byte × Int)) (i : Nat) : Int :=
  match dependence g with
  | none => firstValue g cells pairs i
  | some (c, d) =>
    if i = d ∧ (placedValue pairs c ≠ none ∨ placedValue pairs d ≠ none) then
      clampInt 1 (dependentMax g (firstValue g cells pairs c)) (firstValue g cells pairs i)
    else firstValue g cells pairs i

theorem fieldsKnown_iff (g : Group) (pairs : List (Byte × Int)) :
    fieldsKnown g pairs = true ↔ ∀ p ∈ pairs, p.1.toNat < (groupSpecs g).length := by
  simp only [fieldsKnown, List.all_eq_true, decide_eq_true_eq]

/-- A placed field is one a pair names. -/
theorem exists_pair_of_placed {pairs : List (Byte × Int)} {i : Nat} {v : Int} (h : placedValue pairs i = some v) :
    ∃ p ∈ pairs, p.1.toNat = i := by
  obtain ⟨p, hp, -⟩ := Option.map_eq_some_iff.mp h
  have hcode := List.find?_some hp
  exact ⟨p, List.mem_reverse.mp (List.mem_of_find?_eq_some hp), of_decide_eq_true hcode⟩

section
variable {g : Group} {cells : List FieldCell} {pairs : List (Byte × Int)} {i : Nat} {cell : FieldCell}

theorem workValue_of_cell (hcell : cells[i]? = some cell) : workValue cells i = cell.pending.getD cell.current := by
  rw [workValue, hcell]

theorem firstPass_value (hknown : fieldsKnown g pairs = true) (hcell : cells[i]? = some cell) :
    (firstPass (groupSpecs g) (placedCodes pairs) (placePairs (workingCopy cells) pairs))[i]? =
      some (firstValue g cells pairs i) := by
  rw [firstPass_getElem?, hcell, Option.map_some, firstValue]
  cases hplaced : placedValue pairs i with
  | none => rw [workValue_of_cell hcell]
  | some v =>
    obtain ⟨p, hp, rfl⟩ := exists_pair_of_placed hplaced
    obtain ⟨f, hf⟩ : ∃ f, (groupSpecs g)[p.1.toNat]? = some f :=
      ⟨_, List.getElem?_eq_getElem ((fieldsKnown_iff g pairs).mp hknown p hp)⟩
    rw [hf]

/-- After both passes every field of the group holds its value. -/
theorem clampedCopy_value (hknown : fieldsKnown g pairs = true) (hcell : cells[i]? = some cell) :
    (clampedCopy g cells pairs)[i]? = some (setValue g cells pairs i) := by
  cases hdep : dependence g with
  | none =>
    rw [clampedCopy_getElem?_of_ne (fun c d h => by rw [hdep] at h; cases h), firstPass_value hknown hcell, setValue, hdep]
  | some p =>
    obtain ⟨c, d⟩ := p
    have hvalue := firstPass_value hknown hcell
    by_cases hi : i = d
    · have hcd : c < d := by cases g <;> cases hdep <;> decide
      obtain ⟨control, hcontrol⟩ : ∃ control, cells[c]? = some control :=
        ⟨_, List.getElem?_eq_getElem (by have := (List.getElem?_eq_some_iff.mp hcell).1; omega)⟩
      have hfirst := firstPass_value hknown hcontrol
      subst hi
      rw [clampedCopy, secondPass, setValue, hdep]
      simp only [true_and, ← placedCodes_contains_iff]
      generalize firstPass (groupSpecs g) (placedCodes pairs) (placePairs (workingCopy cells) pairs) = work at hvalue hfirst
      by_cases hplaced : ((placedCodes pairs).contains c || (placedCodes pairs).contains i) = true
      · rw [if_pos hplaced, if_pos (by simpa using hplaced), List.getElem?_set_self (List.getElem?_eq_some_iff.mp hvalue).1,
          List.getD_eq_getElem?_getD, List.getD_eq_getElem?_getD, hvalue, hfirst]
        rfl
      · rw [if_neg hplaced, if_neg (by simpa using hplaced), hvalue]
    · rw [clampedCopy_getElem?_of_ne (fun c2 d2 h => by rw [hdep] at h; cases h; exact hi), hvalue, setValue, hdep]
      simp only [hi, false_and, if_false]

/-- A field is written when it is placed or the clamping changes it. -/
theorem isWritten_iff_changed (hknown : fieldsKnown g pairs = true) (hcell : cells[i]? = some cell) :
    isWritten g cells pairs i = true ↔
      placedValue pairs i ≠ none ∨ setValue g cells pairs i ≠ workValue cells i := by
  rw [isWritten, Bool.or_eq_true, placedCodes_contains_iff, clampedCopy_value hknown hcell, workingCopy_getElem?, hcell,
    workValue_of_cell hcell, Option.map_some, bne_iff_ne, ne_eq, ne_eq, ne_eq, Option.some_inj]

end

/-! ## Notices of a SET (R23) -/

section
variable {g : Group} (cells : List FieldCell) (pairs : List (Byte × Int))

/-- In a group with no dependent field the written fields are the placed ones. -/
theorem isWritten_iff_placed_of_free (hdep : dependence g = none) (i : Nat) :
    isWritten g cells pairs i = true ↔ placedValue pairs i ≠ none :=
  isWritten_iff_placed (fun c d h => by rw [hdep] at h; cases h) cells pairs

theorem noticesOfSet_search : (noticesOfSet g cells pairs).search = true ↔
    (g = .view ∨ g = .tablet ∨ g = .snap) ∧ ∃ i < cells.length, placedValue pairs i ≠ none := by
  have hany (hdep : dependence g = none) : (List.range cells.length).any (isWritten g cells pairs) = true ↔
      ∃ i < cells.length, placedValue pairs i ≠ none := by
    simp only [List.any_eq_true, List.mem_range, isWritten_iff_placed_of_free cells pairs hdep]
  rw [noticesOfSet, Bool.and_eq_true]
  cases g with
  | view | tablet | snap => simpa using hany rfl
  | _ => simp

theorem noticesOfSet_source :
    (noticesOfSet g cells pairs).source = true ↔ g = .tablet ∧ placedValue pairs 5 ≠ none := by
  rw [noticesOfSet, Bool.and_eq_true, beq_iff_eq]
  exact and_congr_right fun h => by rw [isWritten_iff_placed_of_free cells pairs (by rw [h]; rfl)]

theorem noticesOfSet_period :
    (noticesOfSet g cells pairs).period = true ↔ g = .blink ∧ placedValue pairs 0 ≠ none := by
  rw [noticesOfSet, Bool.and_eq_true, beq_iff_eq]
  exact and_congr_right fun h => isWritten_iff_placed (fun c d hd => by rw [h] at hd; cases hd; decide) cells pairs

theorem noticesOfSet_interval :
    (noticesOfSet g cells pairs).interval = true ↔ g = .reports ∧ placedValue pairs 1 ≠ none := by
  rw [noticesOfSet, Bool.and_eq_true, beq_iff_eq]
  exact and_congr_right fun h => by rw [isWritten_iff_placed_of_free cells pairs (by rw [h]; rfl)]

end

/-! ## SET (R20) -/

/-- What a request raised in the course of an event leaves, and what it asks. -/
theorem requestIf_spec (wanted : Bool) (u : State) :
    let t := requestIf wanted u
    (t.resetAsserted = u.resetAsserted ∧ t.vpl = u.vpl ∧ t.pds = u.pds ∧ t.ptu = u.ptu ∧ t.gcu = u.gcu ∧ t.ovc = u.ovc ∧
      t.rlt = u.rlt ∧ t.pending = u.pending ∧ t.tbs = { u.tbs with pin := t.tbs.pin }) ∧
    (wanted = true → SearchAsked u t) ∧ (wanted = false → t = u) := by
  cases wanted with
  | false => exact ⟨⟨rfl, rfl, rfl, rfl, rfl, rfl, rfl, rfl, rfl⟩, nofun, fun _ => rfl⟩
  | true =>
    have htbs : (searchRequest u).tbs = { u.tbs with pin := (searchRequest u).tbs.pin } := by
      obtain ⟨p, hp⟩ := searchRequest_tbs u
      rw [hp]
    exact ⟨⟨searchRequest_resetAsserted u, searchRequest_vpl u, searchRequest_pds u, searchRequest_ptu u,
      searchRequest_gcu u, searchRequest_ovc u, searchRequest_rlt u, searchRequest_pending u, htbs⟩,
      fun _ => searchRequest_asked u, nofun⟩

/-- A request asks the same of states with the same engine and pin. -/
theorem SearchAsked.of_frame {s u t : State} (h : SearchAsked u t) (hsse : u.sse = s.sse) (hpin : u.tbs.pin = s.tbs.pin) :
    SearchAsked s t := by
  rwa [SearchAsked, hsse, hpin] at h

section
variable {s : State} {tag group : Byte} {rest : List Byte} {pairs : List (Byte × Int)} {g : Group}

theorem lengthOk_set (hlen : rest.length ≤ 239) (hpairs : setPairs group rest = some pairs) :
    lengthOk .set (group :: rest) = true := by
  have hfits : (group :: rest).length ≤ Config.payloadMax := by rw [List.length_cons]; exact Nat.succ_le_succ hlen
  simp only [lengthOk, hpairs, Option.isSome_some, Bool.and_true, decide_eq_true hfits]

/-- A SET whose walk ends at its end is taken by its group byte and pairs. -/
theorem exec_set (hrun : Running s) (hlen : rest.length ≤ 239) (hpairs : setPairs group rest = some pairs) :
    exec (.set tag (group :: rest)) s = .next (takeSet tag group pairs s) := by
  refine (whileRunning_takeClass hrun (lengthOk_set hlen hpairs) tag).trans ?_
  show Host.Outcome.next (takeSet tag group ((setPairs group rest).getD []) s) = _
  rw [hpairs]
  rfl

theorem takeSet_known (hg : groupOf group = some g) (hknown : fieldsKnown g pairs = true) :
    takeSet tag group pairs s = acceptSet g pairs s := by
  simp only [takeSet, hg, hknown, if_true]

theorem takeSet_unknown (hg : groupOf group = some g) (hknown : fieldsKnown g pairs = false) :
    takeSet tag group pairs s = offer tag (.error 0x01 .field none) s := by
  simp only [takeSet, hg, hknown]
  rfl

theorem takeSet_noGroup (hg : groupOf group = none) :
    takeSet tag group pairs s = offer tag (.error 0x01 .field none) s := by
  simp only [takeSet, hg]
  rfl

/-- The settings a SET of group `g` leaves. -/
def settingsAfterSet (g : Group) (pairs : List (Byte × Int)) (s : State) : Settings :=
  setGroupCells s.pds.settings g (writeGroup g (isLocked s) pairs (groupCells s.pds.settings g))

theorem acceptSet_locked (hlock : s.vpl.lock = .locked) :
    acceptSet g pairs s = setSettings (settingsAfterSet g pairs s) s := if_pos ((isLocked_iff s).mpr hlock)

theorem acceptSet_unlocked (hlock : s.vpl.lock ≠ .locked) :
    acceptSet g pairs s =
      requestIf (noticesOfSet g (groupCells s.pds.settings g) pairs).search
        (giveNotices (noticesOfSet g (groupCells s.pds.settings g) pairs) (setSettings (settingsAfterSet g pairs s) s)) := by
  refine if_neg ?_
  rw [(isLocked_eq_false_iff s).mpr hlock]
  nofun

end

/-- Every field of a group after a SET: written with its value, or as it was; no other group is touched. -/
theorem settingsAfterSet_cells {g : Group} {pairs : List (Byte × Int)} (hknown : fieldsKnown g pairs = true) (s : State) :
    (∀ h, h ≠ g → groupCells (settingsAfterSet g pairs s) h = groupCells s.pds.settings h) ∧
    (groupCells (settingsAfterSet g pairs s) g).length = (groupCells s.pds.settings g).length ∧
    ∀ i c, (groupCells s.pds.settings g)[i]? = some c →
      (groupCells (settingsAfterSet g pairs s) g)[i]? = some
        (if placedValue pairs i ≠ none ∨
            setValue g (groupCells s.pds.settings g) pairs i ≠ workValue (groupCells s.pds.settings g) i then
          writeCell (isLocked s) (setValue g (groupCells s.pds.settings g) pairs i) c
        else c) := by
  rw [settingsAfterSet]
  refine ⟨fun h hne => groupCells_setGroupCells_other hne _ _, ?_, fun i c hc => ?_⟩
  · rw [groupCells_setGroupCells_same, writeGroup, List.length_mapIdx]
  · rw [groupCells_setGroupCells_same, writeGroup_getElem?, hc, Option.map_some, List.getD_eq_getElem?_getD,
      clampedCopy_value hknown hc]
    simp only [isWritten_iff_changed hknown hc, Option.getD_some]

end Sys2Proof.Machine

/-! SET in the words of the statements: a whole group, one field, and a field with a dependent one (R20, R21, R23). -/

namespace Sys2Proof.Machine

/-! ## The values on the wire (R175) -/

/-- Bytes joined most significant first. -/
theorem toNat_append_byte {w : Nat} (x : BitVec w) (b : Byte) : (x ++ b).toNat = x.toNat * 256 + b.toNat := by
  rw [BitVec.toNat_append, ← Nat.shiftLeft_add_eq_or_of_lt b.isLt, Nat.shiftLeft_eq]

theorem int32OfBytes_four (b3 b2 b1 b0 : Byte) : int32OfBytes [b3, b2, b1, b0] = (b3 ++ b2 ++ b1 ++ b0).toInt := by
  have hword : BitVec.ofNat 32 (natOfBytes [b3, b2, b1, b0]) = b3 ++ b2 ++ b1 ++ b0 := by
    refine BitVec.eq_of_toNat_eq ?_
    simp only [BitVec.toNat_ofNat, natOfBytes, List.foldl_cons, List.foldl_nil, toNat_append_byte]
    omega
  rw [int32OfBytes, hword]

theorem natOfBytes_eight (b7 b6 b5 b4 b3 b2 b1 b0 : Byte) :
    natOfBytes [b7, b6, b5, b4, b3, b2, b1, b0] = (b7 ++ b6 ++ b5 ++ b4 ++ b3 ++ b2 ++ b1 ++ b0).toNat := by
  simp only [natOfBytes, List.foldl_cons, List.foldl_nil, toNat_append_byte]
  omega

theorem bytesOfNat_length (n v : Nat) : (bytesOfNat n v).length = n := by
  induction n generalizing v with
  | zero => rfl
  | succ n ih => rw [bytesOfNat, List.length_cons, ih]

/-- A run of bytes joined behind a number. -/
theorem foldl_bytesOfNat (n v a : Nat) :
    (bytesOfNat n v).foldl (fun m b => m * 256 + b.toNat) a = a * 256 ^ n + v % 256 ^ n := by
  induction n generalizing a with
  | zero => simp [bytesOfNat, Nat.mod_one]
  | succ n ih =>
    have hsplit : v % 256 ^ (n + 1) = v % 256 ^ n + 256 ^ n * (v / 256 ^ n % 256) := by rw [Nat.pow_succ, Nat.mod_mul]
    rw [bytesOfNat, List.foldl_cons, ih, hsplit]
    show (a * 256 + v / 256 ^ n % 256) * _ + _ = _
    ring

/-- The bytes of a number give it back. -/
theorem natOfBytes_bytesOfNat (n v : Nat) : natOfBytes (bytesOfNat n v) = v % 256 ^ n := by
  rw [natOfBytes, foldl_bytesOfNat, Nat.zero_mul, Nat.zero_add]

/-- The four bytes of a signed value give it back. -/
theorem int32OfBytes_bytesOfInt {v : Int} (hlo : -2147483648 ≤ v) (hhi : v ≤ 2147483647) :
    int32OfBytes (bytesOfInt 4 v) = v := by
  rw [int32OfBytes, bytesOfInt, natOfBytes_bytesOfNat, BitVec.toInt_eq_toNat_bmod, BitVec.toNat_ofNat, Int.bmod_def]
  simp only [Nat.reducePow, Nat.cast_ofNat]
  omega

theorem bytesOfInt_length (n : Nat) (v : Int) : (bytesOfInt n v).length = n := bytesOfNat_length ..

/-! ## One pair and two pairs -/

theorem setPairs_one {group code : Byte} {bytes : List Byte} (hlen : bytes.length = pairSize group code) :
    setPairs group (code :: bytes) = some [(code, pairValue group code bytes)] := by
  rw [setPairs_cons, if_neg (by omega), List.drop_eq_nil_of_le hlen.le, setPairs_nil]
  rfl

theorem pairSize_narrow {group code : Byte} (h : ¬(group = 2 ∧ code = 2)) : pairSize group code = 4 := if_neg h

theorem setPairs_int {group code : Byte} (hnarrow : ¬(group = 2 ∧ code = 2)) {v : Int} (hlo : -2147483648 ≤ v)
    (hhi : v ≤ 2147483647) : setPairs group (code :: bytesOfInt 4 v) = some [(code, v)] := by
  rw [setPairs_one ((bytesOfInt_length 4 v).trans (pairSize_narrow hnarrow).symm), pairValue, if_neg hnarrow,
    List.take_of_length_le (bytesOfInt_length 4 v).le, int32OfBytes_bytesOfInt hlo hhi]

/-- The working copy after a SET depends on the values it places and on which fields they are. -/
theorem clampedCopy_congr {g : Group} {cells : List FieldCell} {x y : List (Byte × Int)}
    (hplace : placePairs (workingCopy cells) x = placePairs (workingCopy cells) y)
    (hcodes : ∀ i, (placedCodes x).contains i = (placedCodes y).contains i) :
    clampedCopy g cells x = clampedCopy g cells y ∧ isWritten g cells x = isWritten g cells y := by
  have hcopy : clampedCopy g cells x = clampedCopy g cells y := by
    simp only [clampedCopy, secondPass, firstPass, hplace, hcodes]
  refine ⟨hcopy, funext fun i => ?_⟩
  rw [isWritten, isWritten, hcopy, hcodes]

/-- Of a field placed twice the later value stands. -/
theorem takeSet_twice (tag group code : Byte) (v w : Int) (s : State) :
    takeSet tag group [(code, v), (code, w)] s = takeSet tag group [(code, w)] s := by
  have hcells (g : Group) (cells : List FieldCell) :=
    clampedCopy_congr (g := g) (cells := cells) (x := [(code, v), (code, w)]) (y := [(code, w)])
      (by simp [placePairs]) (fun i => by simp [placedCodes])
  have hknown (g : Group) : fieldsKnown g [(code, v), (code, w)] = fieldsKnown g [(code, w)] := by simp [fieldsKnown]
  have hwrite (g : Group) (locked : Bool) (cells : List FieldCell) :
      writeGroup g locked [(code, v), (code, w)] cells = writeGroup g locked [(code, w)] cells := by
    simp only [writeGroup, (hcells g cells).1, (hcells g cells).2]
  have hnotices (g : Group) (cells : List FieldCell) :
      noticesOfSet g cells [(code, v), (code, w)] = noticesOfSet g cells [(code, w)] := by
    simp only [noticesOfSet, (hcells g cells).2]
  simp only [takeSet, hknown, acceptSet, hwrite, hnotices]

/-- A SET of no field changes nothing. -/
theorem acceptSet_nil (g : Group) (s : State) : acceptSet g [] s = s := by
  have hcopy (cells : List FieldCell) : clampedCopy g cells [] = workingCopy cells := by
    have hfirst : firstPass (groupSpecs g) [] (workingCopy cells) = workingCopy cells := by
      simp [firstPass, List.mapIdx_eq_zipIdx_map]
    show secondPass g [] (firstPass (groupSpecs g) [] (workingCopy cells)) = _
    rw [hfirst, secondPass]
    cases dependence g <;> rfl
  have hwritten (cells : List FieldCell) (i : Nat) : isWritten g cells [] i = false := by
    rw [isWritten, hcopy]
    simp [placedCodes]
  have hsame : settingsAfterSet g [] s = s.pds.settings := by
    rw [settingsAfterSet, writeGroup]
    simp [hwritten, List.mapIdx_eq_zipIdx_map]
  have hset : setSettings (settingsAfterSet g [] s) s = s := by rw [hsame]; rfl
  by_cases hlock : s.vpl.lock = .locked
  · rw [acceptSet_locked hlock, hset]
  · have hnone (cells : List FieldCell) : noticesOfSet g cells [] = ⟨false, false, false, false⟩ := by
      simp [noticesOfSet, hwritten]
    rw [acceptSet_unlocked hlock, hset, hnone]
    rfl

/-- Settles O16. -/
theorem setWritesTheNamedGroup : Obligations.SetWritesTheNamedGroup := by
  intro tag group rest s hrun hlen
  refine ⟨fun g pairs hg hpairs => ?_, fun code b3 b2 b1 b0 tail hnarrow => ?_, fun b7 b6 b5 b4 b3 b2 b1 b0 tail => ?_,
    fun hg => ?_, fun code x y hxy hx => ?_, fun hg hpairs => ?_⟩
  case refine_1 =>
    intro cells work placed first under value written store
    have hexec : exec (.set tag (group :: rest)) s = .next (takeSet tag group pairs s) := exec_set hrun hlen hpairs
    have hfirst (i : Nat) : first i = firstValue g cells pairs i := rfl
    have hvalue (i : Nat) : value i = setValue g cells pairs i := by
      cases g <;> rfl
    have hstore (hknown : fieldsKnown g pairs = true) :
        store (settingsAfterSet g pairs s) (fun c v => writeCell (isLocked s) v c) := by
      obtain ⟨hother, hlength, hcells⟩ := settingsAfterSet_cells hknown s
      refine ⟨hother, hlength, fun i c hc => ?_⟩
      rw [hcells i c hc, hvalue]
      have hwritten : written i ↔ placedValue pairs i ≠ none ∨ setValue g cells pairs i ≠ workValue cells i := by
        rw [← hvalue]
        rfl
      exact ⟨fun hw => congrArg some (if_pos (hwritten.mp hw)), fun hw => congrArg some (if_neg fun h => hw (hwritten.mpr h))⟩
    refine ⟨fieldsKnown_iff g pairs, fun hknown hlock => ⟨settingsAfterSet g pairs s, ?_, ?_⟩, fun hknown hlock => ?_,
      fun hunknown => ?_⟩
    · rw [hexec, takeSet_known hg hknown, acceptSet_locked hlock]
      rfl
    · have hkept := hstore hknown
      rw [(isLocked_iff s).mpr hlock] at hkept
      exact hkept
    · intro asks
      have hnot : isLocked s = false := (isLocked_eq_false_iff s).mpr hlock
      refine ⟨_, hexec, ?_⟩
      rw [takeSet_known hg hknown, acceptSet_unlocked hlock]
      obtain ⟨⟨-, hvpl, hpds, hptu, hgcu, hovc, hrlt, -, htbs⟩, hasked, hsame⟩ := requestIf_spec
        (noticesOfSet g cells pairs).search
        (giveNotices (noticesOfSet g cells pairs) (setSettings (settingsAfterSet g pairs s) s))
      have hsearch : (noticesOfSet g cells pairs).search = true ↔ asks := noticesOfSet_search cells pairs
      have hsource := noticesOfSet_source (g := g) cells pairs
      have hperiod := noticesOfSet_period (g := g) cells pairs
      have hinterval := noticesOfSet_interval (g := g) cells pairs
      generalize hn : noticesOfSet g cells pairs = n at *
      rw [giveNotices_eq] at *
      generalize requestIf n.search _ = t at *
      have hsettings : t.pds.settings = settingsAfterSet g pairs s := congrArg Pds.settings hpds
      have hpin : (if n.interval then { s.tbs with interval := 0 } else s.tbs).pin = s.tbs.pin := by split <;> rfl
      refine ⟨?_, ?_, hvpl, hgcu, hrlt, ?_, ?_, ?_, fun h => (hasked (hsearch.mpr h)).of_frame rfl hpin, fun h => ?_⟩
      · have hkept := hstore hknown
        rw [hnot] at hkept
        rw [hsettings]
        exact hkept
      · rw [hsettings]
        exact hpds
      · rw [hptu, hsettings]
        exact if_congr hsource rfl rfl
      · rw [hovc]
        exact if_congr hperiod rfl rfl
      · refine htbs.trans ?_
        show ({ (if n.interval then { s.tbs with interval := 0 } else s.tbs : Tbs) with pin := t.tbs.pin } : Tbs) =
          { s.tbs with pin := t.tbs.pin, interval := if g = .reports ∧ placedValue pairs 1 ≠ none then 0 else s.tbs.interval }
        by_cases hi : n.interval = true
        · rw [if_pos hi, if_pos (hinterval.mp hi)]
        · rw [if_neg hi, if_neg fun h => hi (hinterval.mpr h)]
      · rw [hsame (Bool.eq_false_iff.mpr fun hs => h (hsearch.mp hs))]
        exact ⟨rfl, hpin⟩
    · rw [hexec, takeSet_unknown hg hunknown]
  case refine_2 =>
    rw [setPairs_cons, pairSize_narrow hnarrow, pairValue, if_neg hnarrow, if_neg (by simp), ← int32OfBytes_four]
    rfl
  case refine_3 =>
    rw [setPairs_cons, ← natOfBytes_eight]
    exact if_neg (by simp [pairSize])
  case refine_4 =>
    obtain ⟨g, hg⟩ := Option.ne_none_iff_exists'.mp hg
    rw [exec_set hrun (Nat.zero_le _) (setPairs_nil group), takeSet_known hg rfl, acceptSet_nil]
  case refine_5 =>
    have hsize : x.length = pairSize group code := hx
    have hshort : x.length ≤ 8 := by rw [hsize, pairSize]; split <;> omega
    have htwo : setPairs group (code :: (x ++ code :: y)) =
        some [(code, pairValue group code (x ++ code :: y)), (code, pairValue group code y)] := by
      rw [setPairs_cons, if_neg (by rw [List.length_append]; omega), ← hsize, List.drop_left,
        setPairs_one (hxy ▸ hsize)]
      rfl
    rw [exec_set hrun (by simp; omega) htwo, exec_set hrun (by simp; omega) (setPairs_one (hxy ▸ hsize)), takeSet_twice]
  case refine_6 =>
    obtain ⟨pairs, hpairs⟩ := Option.ne_none_iff_exists'.mp hpairs
    rw [exec_set hrun hlen hpairs, takeSet_noGroup hg]

/-! ## One field (R20, R21) -/

theorem placedValue_one (code : Byte) (v : Int) (i : Nat) :
    placedValue [(code, v)] i = if code.toNat = i then some v else none := by
  by_cases h : code.toNat = i <;> simp [placedValue, h]

/-- A SET of one field of a group with no dependent field writes that field alone, clamped. -/
theorem writeGroup_one {g : Group} (hdep : dependence g = none) {code : Nat} (hcode : code < 256) {f : FieldSpec}
    (hf : (groupSpecs g)[code]? = some f) (v : Int) (locked : Bool) (cells : List FieldCell) :
    writeGroup g locked [(BitVec.ofNat 8 code, v)] cells =
      cells.modify code (writeCell locked (clampField f v)) := by
  have htoNat : (BitVec.ofNat 8 code).toNat = code := by rw [BitVec.toNat_ofNat]; omega
  have hknown : fieldsKnown g [(BitVec.ofNat 8 code, v)] = true := by
    rw [fieldsKnown_iff]
    intro p hp
    rw [List.mem_singleton.mp hp, htoNat]
    exact (List.getElem?_eq_some_iff.mp hf).1
  refine List.ext_getElem? fun i => ?_
  rw [writeGroup_getElem?, List.getElem?_modify]
  refine Option.map_congr fun c hc => ?_
  have hplaced := placedValue_one (BitVec.ofNat 8 code) v i
  rw [htoNat] at hplaced
  have hwritten := isWritten_iff_placed_of_free cells [(BitVec.ofNat 8 code, v)] hdep i
  by_cases hi : code = i
  · subst hi
    rw [if_pos rfl] at hplaced
    rw [if_pos (hwritten.mpr (by rw [hplaced]; nofun)), if_pos rfl, List.getD_eq_getElem?_getD, clampedCopy_value hknown hc,
      setValue, hdep, firstValue, hplaced, hf]
    rfl
  · rw [if_neg hi] at hplaced
    rw [if_neg fun h => hwritten.mp h hplaced, if_neg hi]

/-- The settings with one field of a group changed. -/
def fieldChanged (t : Settings) (g : Group) (code : Nat) (cell : FieldCell → FieldCell) : Settings :=
  setGroupCells t g ((groupCells t g).modify code cell)

/-- The notices of a SET of one field. -/
theorem noticesOfSet_one {g : Group} {code : Nat} (hcode : code < 256) (cells : List FieldCell) (v : Int) :
    noticesOfSet g cells [(BitVec.ofNat 8 code, v)] =
      ⟨decide ((g = .view ∨ g = .tablet ∨ g = .snap) ∧ code < cells.length), decide (g = .tablet ∧ code = 5),
        decide (g = .blink ∧ code = 0), decide (g = .reports ∧ code = 1)⟩ := by
  have htoNat : (BitVec.ofNat 8 code).toNat = code := by rw [BitVec.toNat_ofNat]; omega
  have hplaced (i : Nat) : placedValue [(BitVec.ofNat 8 code, v)] i ≠ none ↔ code = i := by
    rw [placedValue_one, htoNat]
    simp
  have hsearch := noticesOfSet_search (g := g) cells [(BitVec.ofNat 8 code, v)]
  have hsource := noticesOfSet_source (g := g) cells [(BitVec.ofNat 8 code, v)]
  have hperiod := noticesOfSet_period (g := g) cells [(BitVec.ofNat 8 code, v)]
  have hinterval := noticesOfSet_interval (g := g) cells [(BitVec.ofNat 8 code, v)]
  simp only [hplaced, exists_eq_right'] at hsearch hsource hperiod hinterval
  generalize noticesOfSet g cells [(BitVec.ofNat 8 code, v)] = n at *
  obtain ⟨search, source, period, interval⟩ := n
  rw [Notices.mk.injEq]
  exact ⟨Bool.eq_iff_iff.mpr (hsearch.trans decide_eq_true_iff.symm),
    Bool.eq_iff_iff.mpr (hsource.trans decide_eq_true_iff.symm),
    Bool.eq_iff_iff.mpr (hperiod.trans decide_eq_true_iff.symm),
    Bool.eq_iff_iff.mpr (hinterval.trans decide_eq_true_iff.symm)⟩

section
variable {g : Group} {code : Nat} {f : FieldSpec} {s : State} (hdep : dependence g = none) (hcode : code < 256)
  (hf : (groupSpecs g)[code]? = some f) (v : Int)
include hdep hcode hf

/-- A SET of one field while LOCKED makes its value pending. -/
theorem acceptSet_one_locked (hlock : s.vpl.lock = .locked) :
    acceptSet g [(BitVec.ofNat 8 code, v)] s =
      setSettings (fieldChanged s.pds.settings g code fun c => { c with pending := some (clampField f v) }) s := by
  rw [acceptSet_locked hlock, settingsAfterSet, writeGroup_one hdep hcode hf, (isLocked_iff s).mpr hlock]
  rfl

/-- A SET of one field outside LOCKED makes its value current, with the notices of the field. -/
theorem acceptSet_one_unlocked (hlock : s.vpl.lock ≠ .locked) :
    acceptSet g [(BitVec.ofNat 8 code, v)] s =
      requestIf (decide ((g = .view ∨ g = .tablet ∨ g = .snap) ∧ code < (groupCells s.pds.settings g).length))
        (giveNotices ⟨decide ((g = .view ∨ g = .tablet ∨ g = .snap) ∧ code < (groupCells s.pds.settings g).length),
            decide (g = .tablet ∧ code = 5), decide (g = .blink ∧ code = 0), decide (g = .reports ∧ code = 1)⟩
          (setSettings (fieldChanged s.pds.settings g code fun _ => ⟨clampField f v, none⟩) s)) := by
  rw [acceptSet_unlocked hlock, settingsAfterSet, writeGroup_one hdep hcode hf, (isLocked_eq_false_iff s).mpr hlock,
    noticesOfSet_one hcode]
  rfl

end

/-- A SET of the source outside LOCKED names the source in use from then on. -/
theorem sourceField_set {t : Settings} (hlen : 5 < t.tablet.length) (v : Int) :
    sourceField (fieldChanged t .tablet 5 fun _ => ⟨clampInt 0 1 v, none⟩) = if v ≤ 0 then .tablet else .packet := by
  have hcell : (t.tablet.modify 5 fun _ => ⟨clampInt 0 1 v, none⟩)[5]? = some ⟨clampInt 0 1 v, none⟩ := by
    rw [List.getElem?_modify, List.getElem?_eq_getElem hlen]
    rfl
  show (if (List.getD (t.tablet.modify 5 _) 5 ⟨0, none⟩).current = 0 then _ else _) = _
  rw [List.getD_eq_getElem?_getD, hcell]
  refine if_congr ?_ rfl rfl
  show clampInt 0 1 v = 0 ↔ v ≤ 0
  unfold clampInt
  split
  · omega
  · split <;> omega

theorem groupOf_two {g : Group} (h : groupOf 2 = some g) : g = .snap := by
  cases h
  rfl

theorem groupSpecs_length_le (g : Group) : (groupSpecs g).length ≤ 11 := by cases g <;> decide

/-- Settles O17. -/
theorem setClampsAndWritesOneField : Obligations.SetClampsAndWritesOneField := by
  refine ⟨fun tag group g code f v s hrun hg hdep hf hmask hlo hhi => ?_, fun tag v n s hrun hlo hhi hn => ?_⟩
  case refine_1 =>
    intro written packet now
    have hcode : code < 256 := by
      have := (List.getElem?_eq_some_iff.mp hf).1
      have := groupSpecs_length_le g
      omega
    have hnarrow : ¬(group = 2 ∧ BitVec.ofNat 8 code = 2) := by
      rintro ⟨rfl, hc⟩
      have htwo : code = 2 := by
        have := congrArg BitVec.toNat hc
        rw [BitVec.toNat_ofNat, Nat.mod_eq_of_lt hcode] at this
        exact this
      rw [groupOf_two hg, htwo] at hf
      cases hf
      cases hmask
    have hclamp : clampField f v = clampInt f.lo f.hi v := by rw [clampField, hmask]
    have hknown : fieldsKnown g [(BitVec.ofNat 8 code, v)] = true := by
      have htoNat : (BitVec.ofNat 8 code).toNat = code := by rw [BitVec.toNat_ofNat, Nat.mod_eq_of_lt hcode]
      simpa [fieldsKnown, htoNat] using (List.getElem?_eq_some_iff.mp hf).1
    have hexec : exec packet s = .next (acceptSet g [(BitVec.ofNat 8 code, v)] s) := by
      rw [show packet = _ from rfl, exec_set hrun (by rw [List.length_cons, bytesOfInt_length]; omega)
        (setPairs_int hnarrow hlo hhi), takeSet_known hg hknown]
    refine ⟨fun hlock => ?_, fun hlock hgroup => ?_, fun hlock hgroup hone => ?_, fun hlock hheld => ⟨fun hgroup => ?_,
      fun hgroup hfive => ⟨?_, ?_⟩⟩⟩
    · rw [hexec, acceptSet_one_locked hdep hcode hf v hlock, hclamp]
      rfl
    · rw [hexec, acceptSet_one_unlocked hdep hcode hf v hlock, hclamp]
      rcases hgroup with rfl | rfl | rfl | ⟨rfl, rfl⟩ <;> simp [requestIf, giveNotices, noticeIf] <;> rfl
    · rw [hexec, acceptSet_one_unlocked hdep hcode hf v hlock, hclamp]
      subst hgroup hone
      rfl
    · rw [hexec, acceptSet_one_unlocked hdep hcode hf v hlock, hclamp]
      rcases hgroup with rfl | ⟨rfl, hc⟩ | rfl
      · simp [requestIf, giveNotices, noticeIf, hheld]; rfl
      · simp [requestIf, giveNotices, noticeIf, hheld, hc]; rfl
      · simp [requestIf, giveNotices, noticeIf, hheld]; rfl
    · subst hgroup hfive
      cases hf
      exact sourceField_set hheld v
    · rw [hexec, acceptSet_one_unlocked hdep hcode hf v hlock, hclamp, giveNotices_eq]
      subst hgroup hfive
      simp [requestIf, hheld]
      rfl
  case refine_2 =>
    intro written kinds layers
    have hkinds : exec kinds s = .next (acceptSet .snap [(BitVec.ofNat 8 1, v)] s) := by
      rw [show kinds = _ from rfl, exec_set hrun (by rw [List.length_cons, bytesOfInt_length]; omega)
        (setPairs_int (by decide) hlo hhi), takeSet_known (g := .snap) rfl rfl]
      rfl
    have hlayers : exec layers s = .next (acceptSet .snap [(BitVec.ofNat 8 2, (n : Int))] s) := by
      have hvalue : pairValue 2 2 (bytesOfNat 8 n) = n := by
        rw [pairValue, if_pos ⟨rfl, rfl⟩, List.take_of_length_le (bytesOfNat_length 8 n).le, natOfBytes_bytesOfNat]
        omega
      rw [show layers = _ from rfl, exec_set hrun (by rw [List.length_cons, bytesOfNat_length]; omega)
        (setPairs_one (bytesOfNat_length 8 n)), takeSet_known (g := .snap) rfl rfl, hvalue]
      rfl
    have hmask : clampField (setField 7) v = v % 128 := rfl
    have hlayerMask : clampField (setField 64) n = n := by
      show (n : Int) % (2 ^ 64 : Nat) = n
      omega
    refine ⟨fun hlock => ⟨?_, ?_⟩, fun hlock hlen => ?_⟩
    · rw [hkinds, acceptSet_one_locked rfl (by decide) rfl v hlock, hmask]
      rfl
    · rw [hlayers, acceptSet_one_locked rfl (by decide) rfl n hlock, hlayerMask]
      rfl
    · have hheld : (groupCells s.pds.settings .snap).length = 11 := hlen
      refine ⟨?_, ?_⟩
      · rw [hkinds, acceptSet_one_unlocked rfl (by decide) rfl v hlock, hmask, hheld]
        rfl
      · rw [hlayers, acceptSet_one_unlocked rfl (by decide) rfl n hlock, hlayerMask, hheld]
        rfl

end Sys2Proof.Machine

/-! SET of a controlling or a dependent field (R21, log entry 16). -/

namespace Sys2Proof.Machine

/-- A cell's value in the working copy. -/
def heldValue (c : FieldCell) : Int := c.pending.getD c.current

/-- A dependent cell clamped under its controlling value, written where that changes it. -/
def clampedCell (locked : Bool) (hi : Int) (c : FieldCell) : FieldCell :=
  if clampInt 1 hi (heldValue c) = heldValue c then c else writeCell locked (clampInt 1 hi (heldValue c)) c

/-- A style group: the four have the same fields. -/
def IsStyle (g : Group) : Prop := g = .styleCursor ∨ g = .styleMarker ∨ g = .styleRubber ∨ g = .styleGhost

/-! ## The working copy after both passes -/

theorem clampedCopy_period (period on : FieldCell) (v : Int) :
    clampedCopy .blink [period, on] [(0, v)] =
      [clampInt 2 255 v, clampInt 1 (clampInt 2 255 v - 1) (heldValue on)] := rfl

theorem clampedCopy_on (period on : FieldCell) (v : Int) :
    clampedCopy .blink [period, on] [(1, v)] =
      [heldValue period, clampInt 1 (heldValue period - 1) (clampInt 1 254 v)] := rfl

theorem clampedCopy_dashPeriod {g : Group} (hg : IsStyle g) (op a b period on blink : FieldCell) (v : Int) :
    clampedCopy g [op, a, b, period, on, blink] [(3, v)] =
      [heldValue op, heldValue a, heldValue b, clampInt 0 32 v, clampInt 1 (max (clampInt 0 32 v) 1) (heldValue on),
        heldValue blink] := by
  rcases hg with rfl | rfl | rfl | rfl <;> rfl

theorem clampedCopy_dashOn {g : Group} (hg : IsStyle g) (op a b period on blink : FieldCell) (v : Int) :
    clampedCopy g [op, a, b, period, on, blink] [(4, v)] =
      [heldValue op, heldValue a, heldValue b, heldValue period,
        clampInt 1 (max (heldValue period) 1) (clampInt 1 32 v), heldValue blink] := by
  rcases hg with rfl | rfl | rfl | rfl <;> rfl

/-! ## The cells -/

/-- A cell that no pair places is written exactly where the clamping changed it. -/
theorem clampedCell_eq (locked : Bool) (hi : Int) (c : FieldCell) :
    (if (some (clampInt 1 hi (heldValue c)) != some (heldValue c)) = true then
      writeCell locked (clampInt 1 hi (heldValue c)) c else c) = clampedCell locked hi c := by
  by_cases h : clampInt 1 hi (heldValue c) = heldValue c
  · simp [clampedCell, h]
  · simp [clampedCell, h]

theorem writeGroup_period (locked : Bool) (period on : FieldCell) (v : Int) :
    writeGroup .blink locked [(0, v)] [period, on] =
      [writeCell locked (clampInt 2 255 v) period, clampedCell locked (clampInt 2 255 v - 1) on] := by
  rw [← clampedCell_eq]
  simp only [writeGroup, isWritten, clampedCopy_period]
  simp [placedCodes, workingCopy, heldValue]

theorem writeGroup_on (locked : Bool) (period on : FieldCell) (v : Int) :
    writeGroup .blink locked [(1, v)] [period, on] =
      [period, writeCell locked (clampInt 1 (heldValue period - 1) (clampInt 1 254 v)) on] := by
  simp only [writeGroup, isWritten, clampedCopy_on]
  simp [placedCodes, workingCopy, heldValue]

theorem writeGroup_dashPeriod {g : Group} (hg : IsStyle g) (locked : Bool) (op a b period on blink : FieldCell) (v : Int) :
    writeGroup g locked [(3, v)] [op, a, b, period, on, blink] =
      [op, a, b, writeCell locked (clampInt 0 32 v) period, clampedCell locked (max (clampInt 0 32 v) 1) on, blink] := by
  rw [← clampedCell_eq]
  simp only [writeGroup, isWritten, clampedCopy_dashPeriod hg]
  simp [placedCodes, workingCopy, heldValue]

theorem writeGroup_dashOn {g : Group} (hg : IsStyle g) (locked : Bool) (op a b period on blink : FieldCell) (v : Int) :
    writeGroup g locked [(4, v)] [op, a, b, period, on, blink] =
      [op, a, b, period, writeCell locked (clampInt 1 (max (heldValue period) 1) (clampInt 1 32 v)) on, blink] := by
  simp only [writeGroup, isWritten, clampedCopy_dashOn hg]
  simp [placedCodes, workingCopy, heldValue]

/-! ## The SET (R20, R23) -/

section
variable {s : State} {tag : Byte} {g : Group}

/-- A SET of one known field with a 32-bit value. -/
theorem exec_set_int (hrun : Running s) {group code : Byte} (hg : groupOf group = some g)
    (hnarrow : ¬(group = 2 ∧ code = 2)) (hcode : code.toNat < (groupSpecs g).length) {v : Int} (hlo : -2147483648 ≤ v)
    (hhi : v ≤ 2147483647) :
    exec (.set tag (group :: code :: bytesOfInt 4 v)) s = .next (acceptSet g [(code, v)] s) := by
  have hknown : fieldsKnown g [(code, v)] = true := by simpa [fieldsKnown] using hcode
  rw [exec_set hrun (by rw [List.length_cons, bytesOfInt_length]; omega) (setPairs_int hnarrow hlo hhi),
    takeSet_known hg hknown]

/-- A SET that gives no notice changes the settings alone, pending or current. -/
theorem acceptSet_quiet {pairs : List (Byte × Int)}
    (hnone : ∀ cells, noticesOfSet g cells pairs = ⟨false, false, false, false⟩) :
    acceptSet g pairs s = setSettings (settingsAfterSet g pairs s) s := by
  by_cases hlock : s.vpl.lock = .locked
  · exact acceptSet_locked hlock
  · rw [acceptSet_unlocked hlock, hnone]
    rfl

/-- The groups with a dependent field give a notice for the blink period alone. -/
theorem noticesOfSet_dependent (hg : g = .blink ∨ IsStyle g) {code : Byte} (hcode : g = .blink → code ≠ 0) (v : Int)
    (cells : List FieldCell) : noticesOfSet g cells [(code, v)] = ⟨false, false, false, false⟩ := by
  have hperiod : ¬(noticesOfSet g cells [(code, v)]).period = true := by
    rw [noticesOfSet_period, placedValue_one]
    rintro ⟨hblink, hplaced⟩
    refine hplaced (if_neg fun h => hcode hblink (BitVec.eq_of_toNat_eq h))
  obtain rfl | hstyle := hg
  · simpa [noticesOfSet] using hperiod
  · rcases hstyle with rfl | rfl | rfl | rfl <;> rfl

theorem writeCell_eq (s : State) (v : Int) (c : FieldCell) :
    writeCell (isLocked s) v c = if s.vpl.lock = .locked then { c with pending := some v } else ⟨v, none⟩ :=
  if_congr (isLocked_iff s) rfl rfl

end

/-- Settles O18. -/
theorem setOfBlinkPeriodClampsOn : Obligations.SetOfBlinkPeriodClampsOn := by
  intro tag s hrun held write clamped
  have hwrite (v : Int) (c : FieldCell) : writeCell (isLocked s) v c = write v c := writeCell_eq s v c
  have hclamped (hi : Int) (c : FieldCell) : clampedCell (isLocked s) hi c = clamped hi c :=
    congrArg (fun x => if clampInt 1 hi (heldValue c) = heldValue c then c else x) (hwrite _ c)
  refine ⟨fun v period on hlo hhi hcells => ?_, fun g group v op a b period on blink hg hlo hhi hcells => ?_⟩
  case refine_1 =>
    intro blinking p
    have hperiod : settingsAfterSet .blink [(0, v)] s =
        { s.pds.settings with blink := [write p period, clamped (p - 1) on] } := by
      rw [settingsAfterSet, show groupCells s.pds.settings .blink = _ from hcells, writeGroup_period, hwrite, hclamped]
      rfl
    have hon : settingsAfterSet .blink [(1, v)] s =
        { s.pds.settings with
          blink := [period, write (clampInt 1 (held period - 1) (clampInt 1 254 v)) on] } := by
      rw [settingsAfterSet, show groupCells s.pds.settings .blink = _ from hcells, writeGroup_on, hwrite]
      rfl
    refine ⟨fun hlock => ?_, fun hlock => ?_, ?_⟩
    · have hpending : write p period = { period with pending := some p } := if_pos hlock
      rw [exec_set_int hrun (g := .blink) rfl (by decide) (by decide) hlo hhi, acceptSet_locked hlock, hperiod, hpending]
      rfl
    · have hnow : write p period = ⟨p, none⟩ := if_neg hlock
      have hnotices : noticesOfSet .blink (groupCells s.pds.settings .blink) [(0, v)] = ⟨false, false, true, false⟩ := rfl
      rw [exec_set_int hrun (g := .blink) rfl (by decide) (by decide) hlo hhi, acceptSet_unlocked hlock, hperiod, hnow,
        hnotices, giveNotices_eq]
      rfl
    · rw [exec_set_int hrun (g := .blink) rfl (by decide) (by decide) hlo hhi,
        acceptSet_quiet (noticesOfSet_dependent (.inl rfl) (by decide) v), hon]
      rfl
  case refine_2 =>
    intro styled
    have hstyle : IsStyle g := by
      rcases hg with ⟨h, -⟩ | ⟨h, -⟩ | ⟨h, -⟩ | ⟨h, -⟩
      exacts [.inl h, .inr (.inl h), .inr (.inr (.inl h)), .inr (.inr (.inr h))]
    have hgroup : groupOf group = some g ∧ group ≠ 2 ∧ (groupSpecs g).length = 6 := by
      rcases hg with ⟨rfl, rfl⟩ | ⟨rfl, rfl⟩ | ⟨rfl, rfl⟩ | ⟨rfl, rfl⟩ <;> exact ⟨rfl, by decide, rfl⟩
    obtain ⟨hgroupOf, hne, hsix⟩ := hgroup
    have hblink (code : Byte) : g = .blink → code ≠ 0 := by
      rintro rfl
      rcases hstyle with h | h | h | h <;> cases h
    have hexec (code : Byte) (hcode : code.toNat < 6) :
        exec (.set tag (group :: code :: bytesOfInt 4 v)) s = .next (setSettings (settingsAfterSet g [(code, v)] s) s) := by
      rw [exec_set_int hrun hgroupOf (fun h => hne h.1) (hsix ▸ hcode) hlo hhi,
        acceptSet_quiet (noticesOfSet_dependent (.inr hstyle) (hblink code) v)]
    refine ⟨?_, ?_⟩
    · rw [hexec 3 (by decide), settingsAfterSet, hcells, writeGroup_dashPeriod hstyle, hwrite, hclamped]
      rfl
    · rw [hexec 4 (by decide), settingsAfterSet, hcells, writeGroup_dashOn hstyle, hwrite]
      rfl

end Sys2Proof.Machine

/-! The scoped RESETs (R30, R95, R138, R163): what each step does, and how a RESET ends. -/

namespace Sys2Proof.Machine

/-! ## Offers one after the other -/

theorem Offered.trans {s t u : State} {x y : List Report} (h : Offered s t x) (k : Offered t u y) :
    Offered s u (x ++ y) := by
  obtain ⟨hrlt, hover⟩ := offered_congr y h.1 h.2
  rw [Offered, offered_append]
  exact ⟨k.1.trans hrlt, k.2.trans hover⟩

/-- What offers leave, seen from a state with the same return lane and REPORT_OVERRUN. -/
theorem offered_of_frame {s u t : State} {x : List Report} (h : Offered u t x) (hrlt : u.rlt = s.rlt)
    (hover : u.pds.reportOverrun = s.pds.reportOverrun) : Offered s t x := by
  obtain ⟨h1, h2⟩ := offered_congr x hrlt hover
  exact ⟨h.1.trans h1, h.2.trans h2⟩

/-! ## The steps of a RESET -/

/-- The CANCELLED report of the gesture step, when a gesture is live (R138). -/
def cancelledReports (tag : Byte) (g : Gesture) : List Report :=
  if g.state = .idle then [] else [⟨tag, .cancelled .reset (g.epoch + 1) g.kind g.vertices.length .reset⟩]

/-- The live gesture after the gesture step: ended, its epoch one further on, where it was live. -/
def resetGesture (g : Gesture) : Gesture :=
  if g.state = .idle then g else ⟨g.kind, .idle, [], false, [], g.epoch + 1⟩

theorem gestureReset_eq (tag : Byte) (s : State) :
    gestureReset tag s = (s.offered (cancelledReports tag s.gcu.live)).withGcu
      ⟨resetGesture s.gcu.live, none, none, none, none⟩ := by
  rw [gestureReset, resetLive]
  by_cases h : s.gcu.live.state = .idle
  · simp only [cancelledReports, resetGesture, if_pos h]
    rfl
  · simp only [cancelledReports, resetGesture, if_neg h]
    rw [changeLive_offer]
    rfl

theorem resetBanks_unpinned {t : Tbs} {b : BankId} (h : t.pin ≠ some b) : bankOf (resetBanks t) b = emptyBank := by
  cases b with
  | snap0 => rw [resetBanks, leaveUse_other (by decide), leaveUse_unpinned h, bankOf_setBank_same]
  | snap1 => rw [resetBanks, leaveUse_unpinned (by rwa [leaveUse_pin]), bankOf_setBank_same]

theorem resetBanks_pinned {t : Tbs} {b : BankId} (h : t.pin = some b) :
    bankOf (resetBanks t) b = { bankOf t b with state := .ready, fate := some .empty } := by
  cases b with
  | snap0 => rw [resetBanks, leaveUse_other (by decide), leaveUse_pinned h]; rfl
  | snap1 =>
    rw [resetBanks, leaveUse_pinned (by rwa [leaveUse_pin]), leaveUse_other (by decide)]
    rfl

/-- The table store after the tables step. -/
def tbsAfterReset (t : Tbs) : Tbs :=
  { resetBanks t with
    mark := none, verify := none, ghostStage := idleStaging, directionStage := idleStaging, glyphStage := idleStaging,
    ghosts := [], directions := [], glyphs := builtinGlyphs, snapDown := false }

theorem tablesReset_eq (s : State) : tablesReset s = s.withTbs (tbsAfterReset s.tbs) := rfl

theorem resetBanks_interval (t : Tbs) : (resetBanks t).interval = t.interval := by
  have hleave (b : BankId) (u : Tbs) : (leaveUse b .empty u).interval = u.interval := by
    unfold leaveUse
    split <;> cases b <;> rfl
  rw [resetBanks, hleave, hleave]

/-- The settings step: reset values, the source change, the phase at 0, the interval counter at 0. -/
theorem settingsReset_eq (s : State) : settingsReset s = { s with
    pds := { s.pds with settings := resetSettings }, ptu := sourceChanged resetSettings s.ptu
    ovc := { s.ovc with phase := 0, restart := true }, tbs := { s.tbs with interval := 0 } } := by
  rw [settingsReset, giveNotices_eq]
  rfl

theorem sourceChanged_source (t : Settings) (p : Ptu) : (sourceChanged t p).source = sourceField t := by
  unfold sourceChanged
  split
  next h => exact h.symm
  next => rfl

theorem sourceChanged_frame (t : Settings) (p : Ptu) :
    (sourceChanged t p).receiver = p.receiver ∧ (sourceChanged t p).rate = p.rate := by
  unfold sourceChanged
  split <;> exact ⟨rfl, rfl⟩

/-! ## The end of a RESET -/

/-- The SYNC_DONE reports of a RESET: those of the waiting tags, when no pending item remains. -/
def syncedReports (remains : Bool) (fence : List Byte) : List Report :=
  if remains then [] else fence.map fun tag => ⟨tag, .syncDone⟩

theorem fenceAfterReset_eq (s : State) :
    fenceAfterReset s = (s.offered (syncedReports (pendingItem s) s.pds.fence)).withPds
      { (s.offered (syncedReports (pendingItem s) s.pds.fence)).pds with
        fence := if pendingItem s then s.pds.fence else [] } := by
  rw [fenceAfterReset]
  cases hp : pendingItem s with
  | true => rfl
  | false =>
    simp only [syncedReports, Bool.false_eq_true, if_false]
    exact completeFence_eq s

/-- A search request leaves a search in flight, and a rerun asked for where one was. -/
theorem searchRequest_flight (s : State) : (searchRequest s).sse.flight ≠ none ∧
    (s.sse.flight ≠ none → (searchRequest s).sse.rerun = true) := by
  cases h : s.sse.flight with
  | none =>
    rw [searchRequest_idle h]
    exact ⟨nofun, fun hn => absurd rfl hn⟩
  | some f =>
    rw [searchRequest_busy h]
    exact ⟨by rw [State.withSse_sse, h]; nofun, fun _ => rfl⟩

/-- A report behind a search request leaves what was asked. -/
theorem SearchAsked.then_offer {s t : State} (h : SearchAsked s t) (tag : Byte) (b : ReportBody) :
    SearchAsked s (offer tag b t) := by
  have hsnapshot : takeSnapshot (offer tag b t) = takeSnapshot t := by
    simp only [takeSnapshot, settings, offer_settings, offer_ptu, offer_tbs, offer_gcu]
  rw [SearchAsked, hsnapshot, offer_tbs, offer_sse]
  exact h

/-- How a RESET ends: one search request, then RESET_DONE. -/
theorem finishReset_spec (tag : Byte) (scope : Scope) (s : State) :
    let t := finishReset tag scope s
    (t.resetAsserted = s.resetAsserted ∧ t.vpl = s.vpl ∧ t.ptu = s.ptu ∧ t.gcu = s.gcu ∧ t.ovc = s.ovc ∧
      t.pending = s.pending ∧ t.tbs = { s.tbs with pin := t.tbs.pin } ∧
      t.pds = { s.pds with reportOverrun := t.pds.reportOverrun } ∧ t.sse.published = s.sse.published) ∧
    t.sse.flight ≠ none ∧ (s.sse.flight ≠ none → t.sse.rerun = true) ∧ SearchAsked s t ∧
    Offered s t [⟨tag, .resetDone scope⟩] := by
  intro t
  obtain ⟨⟨hreset, hvpl, hpds, hptu, hgcu, hovc, hrlt, hpending, htbs⟩, hasked, -⟩ := requestIf_spec true s
  obtain ⟨hflight, hrerun⟩ := searchRequest_flight s
  have ht : t = (searchRequest s).offered [⟨tag, .resetDone scope⟩] := rfl
  have hoffer : t = offer tag (.resetDone scope) (searchRequest s) := rfl
  have hframe := congrArg State.pds (offered_frame [⟨tag, .resetDone scope⟩] (searchRequest s))
  rw [← ht] at hframe
  have htold : Offered s t [⟨tag, .resetDone scope⟩] :=
    offered_of_frame ⟨congrArg State.rlt ht, congrArg (·.pds.reportOverrun) ht⟩ hrlt (congrArg Pds.reportOverrun hpds)
  change (searchRequest s).pds = s.pds at hpds
  rw [hpds] at hframe
  refine ⟨⟨?_, ?_, ?_, ?_, ?_, ?_, ?_, hframe, ?_⟩, ?_, ?_, SearchAsked.then_offer (hasked rfl) tag (.resetDone scope), htold⟩
  · exact (offer_resetAsserted ..).trans hreset
  · exact (offer_vpl ..).trans hvpl
  · exact (offer_ptu ..).trans hptu
  · exact (offer_gcu ..).trans hgcu
  · exact (offer_ovc ..).trans hovc
  · exact (offer_pending ..).trans hpending
  · rw [hoffer, offer_tbs]; exact htbs
  · rw [hoffer, offer_sse, searchRequest_published]
  · rw [hoffer, offer_sse]; exact hflight
  · rw [hoffer, offer_sse]; exact hrerun

/-- How a RESET of scope GESTURE, TABLES or SETTINGS ends after its step: the waiting tags are answered when no pending item
remains, a search is requested, and RESET_DONE is offered. -/
theorem finishedReset_spec (tag : Byte) (scope : Scope) (s : State) :
    let t := finishReset tag scope (fenceAfterReset s)
    (t.vpl = s.vpl ∧ t.ptu = s.ptu ∧ t.gcu = s.gcu ∧ t.ovc = s.ovc ∧ t.tbs = { s.tbs with pin := t.tbs.pin }) ∧
    t.pds = { s.pds with
      fence := if pendingItem s then s.pds.fence else [], reportOverrun := t.pds.reportOverrun } ∧
    t.sse.flight ≠ none ∧ (s.sse.flight ≠ none → t.sse.rerun = true) ∧ SearchAsked s t ∧
    Offered s t (syncedReports (pendingItem s) s.pds.fence ++ [⟨tag, .resetDone scope⟩]) := by
  obtain ⟨⟨-, hvpl, hptu, hgcu, hovc, -, htbs, hpds, -⟩, hflight, hrerun, hasked, htold⟩ :=
    finishReset_spec tag scope (fenceAfterReset s)
  rw [fenceAfterReset_eq] at *
  generalize finishReset tag scope _ = t at *
  have hframe := offered_frame (syncedReports (pendingItem s) s.pds.fence) s
  have hfirst : Offered s (s.offered (syncedReports (pendingItem s) s.pds.fence)) _ := ⟨rfl, rfl⟩
  generalize s.offered (syncedReports (pendingItem s) s.pds.fence) = u at *
  rw [hframe] at hvpl hptu hgcu hovc htbs hpds hrerun hasked
  exact ⟨⟨hvpl, hptu, hgcu, hovc, htbs⟩, hpds, hflight, hrerun, hasked, hfirst.trans (offered_of_frame htold rfl rfl)⟩

/-! ## The pending items that remain (section 2.9) -/

theorem pendingItem_gestureReset (tag : Byte) (s : State) : pendingItem (gestureReset tag s) = pendingItem s := by
  rw [gestureReset_eq, offered_frame]
  rfl

theorem pendingItem_tablesReset (s : State) : pendingItem (tablesReset s) = settingsPending s.pds.settings := by
  show (settingsPending s.pds.settings || false || false || false || false) = _
  simp only [Bool.or_false]

theorem pendingItem_settingsReset (s : State) : pendingItem (settingsReset s) =
    (s.tbs.mark.isSome || decide (s.tbs.ghostStage.state = .staged) || decide (s.tbs.directionStage.state = .staged) ||
      decide (s.tbs.glyphStage.state = .staged)) := by
  rw [settingsReset_eq]
  show (settingsPending resetSettings || _ || _ || _ || _) = _
  rw [settingsPending_resetSettings, Bool.false_or]
  rfl

theorem resetGesture_state (g : Gesture) : (resetGesture g).state = .idle := by
  unfold resetGesture
  split
  · assumption
  · rfl

/-- Settles O25. -/
theorem scopedResetsResetTheirScope : Obligations.ScopedResetsResetTheirScope := by
  intro tag s hrun g cancelled synced waits left
  have hexec (f : State → State) : whileRunning f s = .next (f s) := whileRunning_running hrun f
  refine ⟨⟨_, hexec _, ?_⟩, ⟨_, hexec _, ?_⟩, ⟨_, hexec _, ?_⟩⟩
  case refine_1 =>
    obtain ⟨⟨hvpl, hptu, hgcu, hovc, htbs⟩, hpds, hflight, hrerun, hasked, htold⟩ :=
      finishedReset_spec tag .gesture (gestureReset tag s)
    rw [pendingItem_gestureReset] at hpds htold
    rw [← resetScopeGesture] at *
    generalize resetScopeGesture tag s = t at *
    have hframe := offered_frame (cancelledReports tag s.gcu.live) s
    have hfirst : Offered s (s.offered (cancelledReports tag s.gcu.live)) cancelled := ⟨rfl, rfl⟩
    rw [gestureReset_eq] at *
    generalize s.offered (cancelledReports tag s.gcu.live) = u at *
    rw [hframe] at hvpl hptu hgcu hovc htbs hpds hrerun hasked
    have hlive : t.gcu.live = resetGesture s.gcu.live := congrArg Gcu.live hgcu
    refine ⟨?_, fun i => ?_, fun h => ?_, fun h => ?_, hpds, hvpl, hptu, hovc, htbs, hflight, hrerun, hasked, ?_⟩
    · rw [hlive]; exact resetGesture_state _
    · rw [hgcu]; fin_cases i <;> rfl
    · exact hlive.trans (if_neg h)
    · exact hlive.trans (if_pos h)
    · have hfence : u.pds.fence = s.pds.fence := by rw [hframe]
      rw [State.withGcu_pds, hfence] at htold
      rw [List.append_assoc]
      exact hfirst.trans (offered_of_frame htold rfl rfl)
  case refine_2 =>
    obtain ⟨⟨hvpl, hptu, hgcu, hovc, htbs⟩, hpds, hflight, hrerun, hasked, htold⟩ :=
      finishedReset_spec tag .tables (tablesReset s)
    rw [pendingItem_tablesReset] at hpds htold
    rw [← resetScopeTables] at *
    generalize resetScopeTables tag s = t at *
    have hbank (b : BankId) : bankOf t.tbs b = bankOf (resetBanks s.tbs) b := by
      rw [htbs]
      exact bankOf_same rfl rfl b
    refine ⟨?_, ?_, fun b hb => ?_, fun b hb => ?_, ?_, ?_, ?_, ?_, ?_, ?_, ?_, ?_, hvpl, hptu, hgcu, hovc, hflight, hrerun,
      hasked.of_frame rfl (resetBanks_pin _), hpds, offered_of_frame htold rfl rfl⟩
    · rw [htbs]; rfl
    · rw [htbs]; rfl
    · rw [hbank, resetBanks_unpinned hb]; exact ⟨rfl, rfl⟩
    · rw [hbank, resetBanks_pinned hb]
    · rw [htbs]; rfl
    · rw [htbs]; rfl
    · rw [htbs]; rfl
    · rw [htbs]; rfl
    · rw [htbs]; rfl
    · rw [htbs]; rfl
    · rw [htbs]; rfl
    · rw [htbs]; exact resetBanks_interval _
  case refine_3 =>
    obtain ⟨⟨hvpl, hptu, hgcu, hovc, htbs⟩, hpds, hflight, hrerun, hasked, htold⟩ :=
      finishedReset_spec tag .settings (settingsReset s)
    rw [pendingItem_settingsReset] at hpds htold
    rw [← resetScopeSettings] at *
    generalize resetScopeSettings tag s = t at *
    rw [settingsReset_eq] at *
    refine ⟨congrArg Pds.settings hpds, hovc, htbs, ?_, hptu, hvpl, hgcu, hflight, hrerun, hasked.of_frame rfl rfl, hpds,
      offered_of_frame htold rfl rfl⟩
    rw [hptu]
    exact sourceChanged_source resetSettings s.ptu

/-- The blocks after the five steps of scope ALL and the emptied fence list. -/
theorem resetAllSteps_eq (tag : Byte) (s : State) : dropFence (resetAllSteps tag s) = { s with
    gcu := ⟨resetGesture s.gcu.live, none, none, none, none⟩
    tbs := { tbsAfterReset s.tbs with interval := 0 }
    pds := { s.pds with
      settings := resetSettings, fence := []
      reportOverrun := (s.offered (cancelledReports tag s.gcu.live)).pds.reportOverrun }
    ptu := { sourceChanged resetSettings s.ptu with
      mailbox := emptySample, sequence := 0, buttons := 0, silence := .stopped }
    ovc := { s.ovc with phase := 0, restart := true }
    rlt := { (s.offered (cancelledReports tag s.gcu.live)).rlt with queue := [] } } := by
  have hframe := offered_frame (cancelledReports tag s.gcu.live) s
  rw [resetAllSteps, settingsReset_eq, tablesReset_eq, gestureReset_eq]
  generalize s.offered (cancelledReports tag s.gcu.live) = u at *
  rw [hframe]
  rfl

/-- The CANCELLED report of a live gesture is dropped by a full queue alone (R166). -/
theorem offered_cancelled (tag : Byte) (s : State) :
    (s.offered (cancelledReports tag s.gcu.live)).pds.reportOverrun =
      (s.pds.reportOverrun || (decide (s.gcu.live.state ≠ .idle) && decide (16 ≤ s.rlt.queue.length))) ∧
    ({ (s.offered (cancelledReports tag s.gcu.live)).rlt with queue := [] } : Rlt) = { s.rlt with
      queue := []
      overrun := s.rlt.overrun || (decide (s.gcu.live.state ≠ .idle) && decide (16 ≤ s.rlt.queue.length)) } := by
  by_cases hidle : s.gcu.live.state = .idle
  · simp [cancelledReports, hidle, State.offered]
  · rcases Nat.lt_or_ge s.rlt.queue.length 16 with hq | hq
    · have hoffer (b : ReportBody) : s.offered [⟨tag, b⟩] = s.queued [⟨tag, b⟩] := offer_room hq tag b
      have hplace : ¬16 ≤ s.rlt.queue.length := by omega
      simp [cancelledReports, hidle, hoffer, hplace, State.queued]
    · have hoffer (b : ReportBody) : s.offered [⟨tag, b⟩] = s.dropped := offer_full hq tag b
      simp [cancelledReports, hidle, hoffer, hq, State.dropped]

/-- Settles O26. -/
theorem resetAllFlushesAndResets : Obligations.ResetAllFlushesAndResets := by
  intro tag s hrun drops
  obtain ⟨hover, hrlt⟩ := offered_cancelled tag s
  obtain ⟨⟨-, hvpl, hptu, hgcu, hovc, -, htbs, hpds, hpublished⟩, hflight, hrerun, hasked, htold⟩ :=
    finishReset_spec tag .all (dropFence (resetAllSteps tag s))
  refine ⟨_, whileRunning_running hrun _, ?_⟩
  rw [← resetScopeAll] at *
  generalize resetScopeAll tag s = t at *
  rw [resetAllSteps_eq, hover, hrlt] at *
  have hbank (b : BankId) : bankOf t.tbs b = bankOf (resetBanks s.tbs) b := by
    rw [htbs]
    exact bankOf_same rfl rfl b
  have hactive : activeBank t.tbs = none := by
    have hnot (b : BankId) : (bankOf t.tbs b).state ≠ .active := by
      rw [hbank]
      exact (resetBanks_bank s.tbs b).1
    exact (if_neg (hnot .snap0)).trans (if_neg (hnot .snap1))
  have hlive : t.gcu.live = resetGesture s.gcu.live := congrArg Gcu.live hgcu
  have hqueued : t.rlt = { s.rlt with queue := [⟨tag, .resetDone .all⟩], overrun := s.rlt.overrun || drops } := htold.1
  have hkept : t.pds.reportOverrun = (s.pds.reportOverrun || drops) := htold.2
  refine ⟨hqueued, ?_, ?_, fun i => ?_, fun h => hlive.trans (if_pos h), fun h => hlive.trans (if_neg h), ?_, ?_, ?_, ?_, ?_,
    ?_, ?_, ?_, ?_, ?_, fun b hb => ?_, hactive, fun b hb => ?_, ?_, ?_, ?_, ?_, ?_, ?_, ?_, hvpl, hovc, hpublished, hflight,
    hrerun, hasked.of_frame rfl (resetBanks_pin _)⟩
  · rw [hpds, hkept]
  · rw [hlive]; exact resetGesture_state _
  · rw [hgcu]; fin_cases i <;> rfl
  · rw [htbs]; rfl
  · rw [htbs]; rfl
  · rw [htbs]; rfl
  · rw [htbs]; rfl
  · rw [htbs]; rfl
  · rw [htbs]; rfl
  · rw [htbs]
  · rw [htbs]; rfl
  · rw [htbs]; rfl
  · rw [htbs]; rfl
  · rw [hbank, resetBanks_unpinned hb]; rfl
  · rw [hbank, resetBanks_pinned hb]
  · rw [hptu]; rfl
  · rw [hptu]
  · rw [hptu]
  · rw [hptu]
  · rw [hptu]; exact sourceChanged_source resetSettings s.ptu
  · rw [hptu]; exact (sourceChanged_frame resetSettings s.ptu).1
  · rw [hptu]; exact (sourceChanged_frame resetSettings s.ptu).2

end Sys2Proof.Machine

/-! The pointer unit (chapter 4): the frame receiver, tablet frames, calibration, silence and the packet source. -/

namespace Sys2Proof.Machine

/-! ## The frame receiver (R52, R53) -/

section
variable {s : State} {b : Byte}

theorem takeTabletByte_first (hline : s.ptu.lineLow = false) (hhunt : s.ptu.receiver = .hunt) (hb : b.msb = true) :
    takeTabletByte b s = setReceiver (.collect [b]) s := by
  simp only [takeTabletByte, hline, hhunt, hb, Bool.false_eq_true, if_false, if_true]

theorem takeTabletByte_hunt (hline : s.ptu.lineLow = false) (hhunt : s.ptu.receiver = .hunt) (hb : b.msb = false) :
    takeTabletByte b s = s := by
  simp only [takeTabletByte, hline, hhunt, hb, Bool.false_eq_true, if_false]

theorem takeTabletByte_more {bytes : List Byte} (hline : s.ptu.lineLow = false) (hcollect : s.ptu.receiver = .collect bytes)
    (hb : b.msb = false) (hlen : bytes.length < 7) : takeTabletByte b s = setReceiver (.collect (bytes ++ [b])) s := by
  simp only [takeTabletByte, hline, hcollect, hb, hlen, Bool.false_eq_true, if_false, if_true]

theorem takeTabletByte_last {bytes : List Byte} (hline : s.ptu.lineLow = false) (hcollect : s.ptu.receiver = .collect bytes)
    (hb : b.msb = false) (hlen : 7 ≤ bytes.length) :
    takeTabletByte b s = judgeFrame (bytes ++ [b]) (setReceiver .hunt s) := by
  simp only [takeTabletByte, hline, hcollect, hb, Nat.not_lt.mpr hlen, Bool.false_eq_true, if_false]

theorem takeTabletByte_restart {bytes : List Byte} (hline : s.ptu.lineLow = false)
    (hcollect : s.ptu.receiver = .collect bytes) (hb : b.msb = true) :
    takeTabletByte b s = setReceiver (.collect [b]) (setTabletErr s) := by
  simp only [takeTabletByte, hline, hcollect, hb, Bool.false_eq_true, if_false, if_true]

/-- Nothing is received from a line held low. -/
theorem takeTabletByte_low (hline : s.ptu.lineLow = true) : takeTabletByte b s = s := if_pos hline

end

/-- Settles O27. -/
theorem frameReceiverTakesCharacters : Obligations.FrameReceiverTakesCharacters := by
  intro b s hrun receiving flagged
  have hbyte : exec (.tabletByte b) s = .next (takeTabletByte b s) := whileRunning_running hrun _
  have herror : exec .tabletFramingError s = .next (takeFramingError s) := whileRunning_running hrun _
  refine ⟨fun hline hhunt hb => ?_, fun hline hhunt hb => ?_, fun bytes hline hcollect hb => ⟨fun hlen => ?_, fun hlen => ?_⟩,
    fun bytes hline hcollect hb => ?_, fun hline => ?_, fun hline => ⟨?_, ?_⟩, whileRunning_running hrun _⟩
  · rw [hbyte, takeTabletByte_first hline hhunt hb]; rfl
  · rw [hbyte, takeTabletByte_hunt hline hhunt hb]
  · rw [hbyte, takeTabletByte_more hline hcollect hb hlen]; rfl
  · rw [hbyte, takeTabletByte_last hline hcollect hb hlen]; rfl
  · rw [hbyte, takeTabletByte_restart hline hcollect hb]; rfl
  · rw [herror, takeFramingError, if_neg (by rw [hline]; nofun)]; rfl
  · rw [herror]; exact congrArg _ (if_pos hline)
  · rw [hbyte, takeTabletByte_low hline]

/-! ## Tablet frames (R54 to R58) -/

theorem toNat_lt_of_msb {b : Byte} (h : b.msb = false) : b.toNat < 128 := by
  have hlt := BitVec.msb_eq_false_iff_two_mul_lt.mp h
  omega

/-- The seven bits of a later character are its value. -/
theorem extractLsb'_seven {b : Byte} (h : b.msb = false) : (b.extractLsb' 0 7).toNat = b.toNat := by
  have hlt := toNat_lt_of_msb h
  rw [BitVec.extractLsb'_toNat, Nat.shiftRight_zero]
  omega

theorem count21_eq {b2 b1 b0 : Byte} (h2 : b2.msb = false) (h1 : b1.msb = false) (h0 : b0.msb = false) :
    count21 b2 b1 b0 = b2.toNat * 16384 + b1.toNat * 128 + b0.toNat := by
  rw [count21, extractLsb'_seven h2, extractLsb'_seven h1, extractLsb'_seven h0]

/-- From HUNT the later characters of a frame are collected. -/
theorem takeTabletFrame_collect {s : State} (hline : s.ptu.lineLow = false) :
    ∀ (rest got : List Byte), (∀ b ∈ rest, b.msb = false) → got.length + rest.length ≤ 7 →
      takeTabletFrame rest (setReceiver (.collect got) s) = setReceiver (.collect (got ++ rest)) s := by
  intro rest
  induction rest with
  | nil => intro got _ _; rw [List.append_nil]; rfl
  | cons b rest ih =>
    intro got hmsb hlen
    rw [List.length_cons] at hlen
    have hstep : takeTabletByte b (setReceiver (.collect got) s) = setReceiver (.collect (got ++ [b])) s :=
      takeTabletByte_more (s := setReceiver (.collect got) s) hline rfl (hmsb b List.mem_cons_self) (by omega)
    show takeTabletFrame rest (takeTabletByte b (setReceiver (.collect got) s)) = _
    rw [hstep, ih _ (fun c hc => hmsb c (List.mem_cons_of_mem b hc)) (by rw [List.length_append, List.length_singleton]; omega),
      List.append_assoc]
    rfl

/-- Eight characters from HUNT are one frame, judged with the receiver back in HUNT. -/
theorem takeTabletFrame_eight {s : State} (hline : s.ptu.lineLow = false) (hhunt : s.ptu.receiver = .hunt)
    {b0 b7 : Byte} {rest : List Byte} (h0 : b0.msb = true) (hrest : ∀ b ∈ rest, b.msb = false) (h7 : b7.msb = false)
    (hlen : rest.length = 6) : takeTabletFrame (b0 :: (rest ++ [b7])) s = judgeFrame (b0 :: (rest ++ [b7])) s := by
  have hback (r : FrameReceiver) : setReceiver .hunt (setReceiver r s) = s := by
    rw [← hhunt]
    rfl
  have hfirst : takeTabletFrame (b0 :: (rest ++ [b7])) s =
      takeTabletByte b7 (takeTabletFrame rest (takeTabletByte b0 s)) := by
    rw [takeTabletFrame, List.foldl_cons, List.foldl_append]
    rfl
  rw [hfirst, takeTabletByte_first hline hhunt h0,
    takeTabletFrame_collect hline rest [b0] hrest (by rw [List.length_singleton]; omega),
    takeTabletByte_last (bytes := [b0] ++ rest) (by exact hline) rfl h7 (by rw [List.length_append, List.length_singleton]; omega),
    hback]
  rfl

/-- A request does not read the silence timer. -/
theorem restartSilence_searchRequest (s : State) : restartSilence (searchRequest s) = searchRequest (restartSilence s) := by
  unfold restartSilence searchRequest
  rw [State.withPtu_sse]
  split <;> rfl

/-- Settles O28. -/
theorem tabletFrameIsJudged : Obligations.TabletFrameIsJudged := by
  intro b0 b1 b2 b3 b4 b5 b6 b7 s hrun hwf hline hhunt x y good point placed
  obtain ⟨h0, hlater⟩ : b0.msb = true ∧ ∀ b ∈ [b1, b2, b3, b4, b5, b6, b7], b.msb = false := by
    simpa [WellFormed] using hwf
  simp only [List.mem_cons, List.not_mem_nil, or_false, forall_eq_or_imp, forall_eq] at hlater
  obtain ⟨h1, h2, h3, h4, h5, h6, h7⟩ := hlater
  have hexec : exec (.tabletFrame b0 b1 b2 b3 b4 b5 b6 b7) s =
      .next (judgeFrame [b0, b1, b2, b3, b4, b5, b6, b7] s) := by
    refine (whileRunning_running hrun _).trans (congrArg _ ?_)
    exact takeTabletFrame_eight (rest := [b1, b2, b3, b4, b5, b6]) hline hhunt h0 (by simp [*]) h7 rfl
  have hx : frameCountX [b0, b1, b2, b3, b4, b5, b6, b7] = x := count21_eq h1 h2 h3
  have hy : frameCountY [b0, b1, b2, b3, b4, b5, b6, b7] = y := count21_eq h4 h5 h6
  have hcheck : frameCheckOk [b0, b1, b2, b3, b4, b5, b6, b7] =
      ((b0.toNat + b1.toNat + b2.toNat + b3.toNat + b4.toNat + b5.toNat + b6.toNat) % 128 == b7.toNat) := by
    simp [frameCheckOk, byteAt]
  have hgood : frameGood [b0, b1, b2, b3, b4, b5, b6, b7] = true ↔ good := by
    simp only [frameGood, hx, hy, hcheck, Bool.and_eq_true, beq_iff_eq, decide_eq_true_eq]
    exact ⟨fun ⟨⟨hc, hx⟩, hy⟩ => ⟨hx, hy, hc⟩, fun ⟨hx, hy, hc⟩ => ⟨⟨hc, hx⟩, hy⟩⟩
  refine ⟨fun hg hsource => ?_, fun hg hsource => ?_, fun hg => ?_⟩
  · have hplaced : restartSilence (placeFrame [b0, b1, b2, b3, b4, b5, b6, b7] s) = placed := by
      have hprox : frameProximity [b0, b1, b2, b3, b4, b5, b6, b7] = b0.getLsbD 6 := rfl
      have hpoint : placeFrame [b0, b1, b2, b3, b4, b5, b6, b7] s = place point (b0.getLsbD 6) s := by
        rw [placeFrame, hx, hy, hprox]
        cases hp : b0.getLsbD 6 with
        | true => simp only [point, hp, if_true, settings]
        | false => simp only [point, hp, Bool.false_eq_true, if_false, placeAbsent]
      rw [hpoint]
      rfl
    rw [hexec, judgeFrame, if_pos (hgood.mpr hg), if_pos hsource, acceptFrame, restartSilence_searchRequest, hplaced]
    rfl
  · rw [hexec, judgeFrame, if_pos (hgood.mpr hg), if_neg (by rw [hsource]; nofun)]
  · rw [hexec, judgeFrame, if_neg fun h => hg (hgood.mp h)]
    rfl

/-! ## Calibration (R36) -/

/-- Rounding half up of a sixteenth-bit fraction. -/
theorem floor_div_65536 (v : Int) : Int.floor ((v : ℚ) / 65536) = v / 65536 := by
  exact_mod_cast Rat.floor_intCast_div_natCast v 65536

theorem clampInt_low {lo hi v : Int} (h : v < lo) : clampInt lo hi v = lo := if_pos h

theorem clampInt_high {lo hi v : Int} (hlo : lo ≤ v) (h : hi < v) : clampInt lo hi v = hi :=
  (if_neg (Int.not_lt.mpr hlo)).trans (if_pos h)

/-- A calibrated axis is VALID in the sheet range, and otherwise saturated and OFF_SHEET. -/
theorem computedCoord_valid (v : Int) :
    (-8388607 ≤ v → v ≤ 8388607 → computedCoord .valid v = ⟨v, .valid⟩) ∧
    (8388607 < v → computedCoord .valid v = ⟨8388607, .offSheet⟩) ∧
    (v < -8388607 → computedCoord .valid v = ⟨-8388607, .offSheet⟩) := by
  refine ⟨fun hlo hhi => ?_, fun h => ?_, fun h => ?_⟩
  · have hsat : saturate v = v := clampInt_id hlo hhi
    rw [computedCoord, hsat, if_pos rfl]
  · have hsat : saturate v = 8388607 := clampInt_high (lo := -8388607) (by omega) h
    rw [computedCoord, hsat, if_neg (by omega)]
  · have hsat : saturate v = -8388607 := clampInt_low h
    rw [computedCoord, hsat, if_neg (by omega)]

theorem calibrateAxis_eq (count : Nat) (scale offset : Int) : calibrateAxis count scale offset =
    computedCoord .valid (offset + Int.floor (((count : ℚ) * scale + 32768) / 65536)) := by
  have hcast : (count : ℚ) * scale + 32768 = (((count : Int) * scale + 32768 : Int) : ℚ) := by push_cast; ring
  rw [hcast, floor_div_65536]
  rfl

/-- Settles O29. -/
theorem calibrationRoundsAndSaturates : Obligations.CalibrationRoundsAndSaturates := by
  intro t cx cy ax ay x y axis
  have hswap : swapAxes t = true ↔ ¬current t .tablet 4 = 0 := by simp [swapAxes]
  have hx : (calibrate t cx cy).x = computedCoord .valid x := by
    have hcount : (if swapAxes t then cy else cx) = ax := by
      by_cases h : current t .tablet 4 = 0
      · rw [if_neg fun hs => hswap.mp hs h]; exact (if_pos h).symm
      · rw [if_pos (hswap.mpr h)]; exact (if_neg h).symm
    rw [calibrate, hcount]
    exact calibrateAxis_eq ..
  have hy : (calibrate t cx cy).y = computedCoord .valid y := by
    have hcount : (if swapAxes t then cx else cy) = ay := by
      by_cases h : current t .tablet 4 = 0
      · rw [if_neg fun hs => hswap.mp hs h]; exact (if_pos h).symm
      · rw [if_pos (hswap.mpr h)]; exact (if_neg h).symm
    rw [calibrate, hcount]
    exact calibrateAxis_eq ..
  rw [hx, hy]
  exact ⟨computedCoord_valid x, computedCoord_valid y⟩

/-! ## Silence and the packet source (R59, R62) -/

/-- Settles O30. -/
theorem tabletSilenceMakesThePointerAbsent : Obligations.TabletSilenceMakesThePointerAbsent := by
  intro s ms hrun hsilence
  have hexec : exec .tabletSilenceExpiry s = .next (tabletSilence s) := whileRunning_running hrun _
  refine ⟨fun hp => ?_, fun hp => ?_⟩
  · rw [hexec]
    simp only [tabletSilence, hsilence, pointerPresent, hp, if_true]
    rfl
  · rw [hexec]
    simp only [tabletSilence, hsilence, pointerPresent, hp, Bool.false_eq_true, if_false]
    rfl

/-- Settles O31. -/
theorem pointerPacketPlaysAFrame : Obligations.PointerPacketPlaysAFrame := by
  intro tag x2 x1 x0 y2 y1 y0 proximity buttons s hrun packet placed
  have hexec : exec packet s = .next (takePointer tag [x2, x1, x0, y2, y1, y0, proximity, buttons] s) :=
    whileRunning_takeClass hrun rfl tag
  refine ⟨fun hsource => ?_, fun hsource hp => ?_, fun hsource hp => ?_⟩
  · rw [hexec, takePointer, if_pos hsource]
    rfl
  · have hplace : placePacket [x2, x1, x0, y2, y1, y0, proximity, buttons] s =
        placed ⟨storedCoord (x2 ++ x1 ++ x0), storedCoord (y2 ++ y1 ++ y0)⟩ true := if_pos hp
    have hlevels : readLevels (proximity != 0) (buttons.extractLsb' 0 4) = buttons.extractLsb' 0 4 :=
      if_pos (bne_iff_ne.mpr hp)
    rw [hexec, takePointer, if_neg (by rw [hsource]; nofun), hplace]
    exact congrArg (fun l => Host.Outcome.next (handPresses l _)) hlevels
  · have hplace : placePacket [x2, x1, x0, y2, y1, y0, proximity, buttons] s = placed s.ptu.mailbox.point false :=
      if_neg fun h => h hp
    have hlevels : readLevels (proximity != 0) (buttons.extractLsb' 0 4) = 0 := by rw [hp]; rfl
    rw [hexec, takePointer, if_neg (by rw [hsource]; nofun), hplace]
    exact congrArg (fun l => Host.Outcome.next (handPresses l _)) hlevels

end Sys2Proof.Machine

/-! The bytes of table records, the CRC over them, and completed builds (R67, R75 to R78, R177). -/

namespace Sys2Proof.Machine

/-! ## The bytes of an entry (R177) -/

theorem bytesOfNat_word16 (w : Word16) : bytesOfNat 2 w.toNat = [w.extractLsb' 8 8, w.extractLsb' 0 8] := by
  simp [bytesOfNat, BitVec.extractLsb', Nat.shiftRight_eq_div_pow]

theorem bytesOfNat_stored24 (v : BitVec 24) :
    bytesOfNat 3 v.toNat = [v.extractLsb' 16 8, v.extractLsb' 8 8, v.extractLsb' 0 8] := by
  simp [bytesOfNat, BitVec.extractLsb', Nat.shiftRight_eq_div_pow]

theorem bytesOfEntry_eq (e : SnapEntry) : bytesOfEntry e =
    [e.x.extractLsb' 16 8, e.x.extractLsb' 8 8, e.x.extractLsb' 0 8, e.y.extractLsb' 16 8, e.y.extractLsb' 8 8,
     e.y.extractLsb' 0 8, e.attr.extractLsb' 8 8, e.attr.extractLsb' 0 8, e.handle.extractLsb' 8 8,
     e.handle.extractLsb' 0 8] := by
  rw [bytesOfEntry, bytesOfNat_stored24, bytesOfNat_stored24, bytesOfNat_word16, bytesOfNat_word16]
  rfl

theorem word16_extract (w : Word16) : word16 (w.extractLsb' 8 8) (w.extractLsb' 0 8) = w := by
  refine BitVec.eq_of_toNat_eq ?_
  simp only [word16, toNat_append_byte, BitVec.extractLsb'_toNat, Nat.shiftRight_eq_div_pow]
  omega

theorem stored24_extract (v : BitVec 24) :
    stored24 (v.extractLsb' 16 8) (v.extractLsb' 8 8) (v.extractLsb' 0 8) = v := by
  refine BitVec.eq_of_toNat_eq ?_
  simp only [stored24, toNat_append_byte, BitVec.extractLsb'_toNat, Nat.shiftRight_eq_div_pow]
  omega

theorem bytesOfNat_of_word16 (b1 b0 : Byte) : bytesOfNat 2 (word16 b1 b0).toNat = [b1, b0] := by
  simp only [bytesOfNat, word16, toNat_append_byte, List.cons.injEq, and_true]
  constructor <;> (refine BitVec.eq_of_toNat_eq ?_; simp only [BitVec.toNat_ofNat]; omega)

theorem bytesOfNat_of_stored24 (b2 b1 b0 : Byte) : bytesOfNat 3 (stored24 b2 b1 b0).toNat = [b2, b1, b0] := by
  simp only [bytesOfNat, stored24, toNat_append_byte, List.cons.injEq, and_true]
  refine ⟨?_, ?_, ?_⟩ <;> (refine BitVec.eq_of_toNat_eq ?_; simp only [BitVec.toNat_ofNat]; omega)

theorem entryOfBytes_bytesOfEntry (e : SnapEntry) : entryOfBytes (bytesOfEntry e) = e := by
  obtain ⟨x, y, attr, handle⟩ := e
  have hparts : entryOfBytes (bytesOfEntry ⟨x, y, attr, handle⟩) =
      ⟨stored24 (x.extractLsb' 16 8) (x.extractLsb' 8 8) (x.extractLsb' 0 8),
       stored24 (y.extractLsb' 16 8) (y.extractLsb' 8 8) (y.extractLsb' 0 8),
       word16 (attr.extractLsb' 8 8) (attr.extractLsb' 0 8), word16 (handle.extractLsb' 8 8) (handle.extractLsb' 0 8)⟩ := by
    rw [bytesOfEntry_eq]
    rfl
  rw [hparts, stored24_extract, stored24_extract, word16_extract, word16_extract]

theorem bytesOfEntry_entryOfBytes (r : List Byte) (h : r.length = 10) : bytesOfEntry (entryOfBytes r) = r := by
  match r, h with
  | [x2, x1, x0, y2, y1, y0, a1, a0, h1, h0], _ =>
    have hparts : entryOfBytes [x2, x1, x0, y2, y1, y0, a1, a0, h1, h0] =
        ⟨stored24 x2 x1 x0, stored24 y2 y1 y0, word16 a1 a0, word16 h1 h0⟩ := rfl
    rw [hparts, bytesOfEntry, bytesOfNat_of_stored24, bytesOfNat_of_stored24, bytesOfNat_of_word16,
      bytesOfNat_of_word16]
    rfl

/-- A run of records reads back as the bytes it was loaded from. -/
theorem flatMap_bytesOfEntry_pieces (n : Nat) (data : List Byte) (h : data.length = 10 * n) :
    ((pieces 10 n data).map entryOfBytes).flatMap bytesOfEntry = data := by
  induction n generalizing data with
  | zero => exact (List.eq_nil_of_length_eq_zero h).symm
  | succ n ih =>
    have hhead : (data.take 10).length = 10 := by rw [List.length_take]; omega
    have htail : (data.drop 10).length = 10 * n := by rw [List.length_drop]; omega
    rw [pieces, List.map_cons, List.flatMap_cons, ih _ htail, bytesOfEntry_entryOfBytes _ hhead, List.take_append_drop]

theorem pieces_length (size n : Nat) (data : List Byte) : (pieces size n data).length = n := by
  induction n generalizing data with
  | zero => rfl
  | succ n ih => rw [pieces, List.length_cons, ih]

/-! ## The CRC (R75) -/

theorem crcBytes_append (crc : Word16) (first second : List Byte) :
    crcBytes crc (first ++ second) = crcBytes (crcBytes crc first) second := List.foldl_append

/-- The bits of a byte, most significant first. -/
def bitsOfByte (b : Byte) : List Bool :=
  [b.getLsbD 7, b.getLsbD 6, b.getLsbD 5, b.getLsbD 4, b.getLsbD 3, b.getLsbD 2, b.getLsbD 1, b.getLsbD 0]

theorem crcBytes_eq_foldl (crc : Word16) (bytes : List Byte) :
    crcBytes crc bytes = (bytes.flatMap bitsOfByte).foldl crcBit crc := by
  rw [crcBytes, List.foldl_flatMap]
  rfl

theorem crcBit_eq (crc : Word16) (bit : Bool) :
    crcBit crc bit = if crc.getLsbD 15 = bit then crc <<< 1 else (crc <<< 1) ^^^ 0x2D17 := by
  rw [crcBit, BitVec.msb_eq_getLsbD_last]
  by_cases h : crc.getLsbD 15 = bit
  · rw [if_pos h, if_neg fun hne => bne_iff_ne.mp hne h]
  · rw [if_neg h, if_pos (bne_iff_ne.mpr h)]
    rfl

/-- Settles O39. -/
theorem storedEntriesGiveBackTheirBytes : Obligations.StoredEntriesGiveBackTheirBytes := by
  refine ⟨flatMap_bytesOfEntry_pieces, entryOfBytes_bytesOfEntry, crcBytes_append, fun crc bytes => ?_,
    bytesOfEntry_eq, by decide⟩
  intro bits feed
  rw [crcBytes_eq_foldl]
  exact congrArg (fun f => List.foldl f crc (bytes.flatMap bitsOfByte)) (funext fun c => funext fun bit => crcBit_eq c bit)

/-! ## Builds (R76 to R78) -/

theorem builtBank_kept (b : Bank) : (builtBank b).state = .ready ∧ (builtBank b).entries = b.entries ∧
    (builtBank b).acceptedCrc = b.acceptedCrc := ⟨rfl, rfl, rfl⟩

/-- Settles O35. -/
theorem buildCompletesReady : Obligations.BuildCompletesReady := by
  intro b s hrun hbuilding bank done
  obtain ⟨hbound, hattained⟩ := builtBank_largest_spec bank
  obtain ⟨hstate, hentries, hcrc⟩ := builtBank_kept bank
  refine ⟨?_, hstate, hentries, hcrc, builtBank_directory_length bank, hbound, hattained⟩
  show whileRunning (completeBuild b) s = _
  rw [whileRunning_running hrun, completeBuild, if_pos hbuilding, ← builtBank_voidCount]
  rfl

end Sys2Proof.Machine

/-! Loads of tables: LOAD_BEGIN, LOAD_DATA and LOAD_END (R69 to R75, R90, R91). Each packet has an equation per outcome of
its tests, for a target; the targets then differ only in what an accepted packet stores. -/

namespace Sys2Proof.Machine

/-! ## Targets (R176) -/

/-- The target byte of a bank. -/
def bankByte : BankId → Byte
  | .snap0 => 0
  | .snap1 => 1

theorem targetOf_bankByte (b : BankId) : targetOf (bankByte b) = some (bankTarget b) := by cases b <;> rfl

theorem targetOf_none {b : Byte} (h : 5 ≤ b.toNat) : targetOf b = none := by
  rw [targetOf_eq, if_neg (by omega), if_neg (by omega), if_neg (by omega), if_neg (by omega), if_neg (by omega)]

/-- The word behind the target byte. -/
theorem word16At_one (t hi lo : Byte) (rest : List Byte) :
    (word16At (t :: hi :: lo :: rest) 1).toNat = hi.toNat * 256 + lo.toNat := toNat_append_byte hi lo

/-- A MOVE in ARMED or TRACKING is one that is not IDLE (R91). -/
theorem ghostInUse_iff (s : State) : ghostInUse s = true ↔
    s.gcu.live.kind = .move ∧ (s.gcu.live.state = .armed ∨ s.gcu.live.state = .tracking) := by
  rw [ghostInUse, Bool.and_eq_true, beq_iff_eq, bne_iff_ne]
  cases s.gcu.live.state <;> simp

theorem ghostInUse_eq_false {s : State}
    (h : ¬(s.gcu.live.kind = .move ∧ (s.gcu.live.state = .armed ∨ s.gcu.live.state = .tracking))) :
    ghostInUse s = false := by
  rw [← Bool.not_eq_true, ghostInUse_iff]
  exact h

/-! ## LOAD_BEGIN (R69 to R71) -/

section
variable {s : State} {tag t : Byte} {rest : List Byte} {target : Target}

theorem exec_loadBegin {payload : List Byte} (hrun : Running s) (hlen : lengthOk .loadBegin payload = true) :
    exec (.loadBegin tag payload) s = .next (takeLoadBegin tag payload s) := whileRunning_takeClass hrun hlen tag

theorem takeLoadBegin_unknown (ht : targetOf t = none) :
    takeLoadBegin tag (t :: rest) s = offer tag (.error 0x10 .field none) s := by
  rw [takeLoadBegin, show targetOf (byteAt (t :: rest) 0) = _ from ht]
  rfl

theorem takeLoadBegin_refused (ht : targetOf t = some target) {cause : Cause}
    (h : beginRefusal s target = some cause) : takeLoadBegin tag (t :: rest) s = offer tag (.error 0x10 cause none) s := by
  rw [takeLoadBegin, show targetOf (byteAt (t :: rest) 0) = _ from ht]
  dsimp only
  rw [h]
  rfl

theorem takeLoadBegin_count (ht : targetOf t = some target) (h : beginRefusal s target = none)
    (hcount : ¬countOk target (word16At (t :: rest) 1).toNat ((byteAt (t :: rest) 3).toNat % 16) = true) :
    takeLoadBegin tag (t :: rest) s = offer tag (.error 0x10 .count none) s := by
  rw [takeLoadBegin, show targetOf (byteAt (t :: rest) 0) = _ from ht]
  dsimp only
  rw [h]
  exact if_neg hcount

theorem takeLoadBegin_opens (ht : targetOf t = some target) (h : beginRefusal s target = none)
    (hcount : countOk target (word16At (t :: rest) 1).toNat ((byteAt (t :: rest) 3).toNat % 16) = true) :
    takeLoadBegin tag (t :: rest) s = beginLoad target (word16At (t :: rest) 1).toNat (t :: rest) s := by
  rw [takeLoadBegin, show targetOf (byteAt (t :: rest) 0) = _ from ht]
  dsimp only
  rw [h]
  exact if_pos hcount

end

theorem beginRefusal_bank (s : State) (b : BankId) : beginRefusal s (bankTarget b) = bankRefusal s.tbs b := by
  cases b <;> rfl

theorem bankRefusal_active {t : Tbs} {b : BankId} (h : (bankOf t b).state = .active) :
    bankRefusal t b = some .active := by rw [bankRefusal, h]

theorem bankRefusal_inUse {t : Tbs} {b : BankId} (h : (bankOf t b).state = .ready) (hpin : t.pin = some b) :
    bankRefusal t b = some .inUse := by rw [bankRefusal, h]; exact if_pos hpin

theorem bankRefusal_free {t : Tbs} {b : BankId} (hactive : (bankOf t b).state ≠ .active)
    (hready : ¬((bankOf t b).state = .ready ∧ t.pin = some b)) : bankRefusal t b = none := by
  unfold bankRefusal
  split
  next h => exact absurd h hactive
  next h => exact if_neg fun hpin => hready ⟨h, hpin⟩
  next => rfl

theorem countOk_bank_iff (b : BankId) (count first : Nat) :
    countOk (bankTarget b) count first = true ↔ 1 ≤ count ∧ count ≤ 16384 := by
  cases b <;> simp only [countOk, bankTarget, Bool.and_eq_true, decide_eq_true_eq]

theorem beginLoad_bank (b : BankId) (count : Nat) (payload : List Byte) (s : State) :
    beginLoad (bankTarget b) count payload s = beginBank b count payload s := by cases b <;> rfl

theorem lengthOk_loadBegin_bank (b : BankId) (b1 b2 b3 b4 b5 b6 b7 b8 b9 : Byte) :
    lengthOk .loadBegin [bankByte b, b1, b2, b3, b4, b5, b6, b7, b8, b9] = true := by cases b <;> rfl

/-- A LOAD_BEGIN of an unknown target may have any length. -/
theorem lengthOk_loadBegin_unknown {target : Byte} {rest : List Byte} (ht : targetOf target = none)
    (hlen : rest.length ≤ 239) : lengthOk .loadBegin (target :: rest) = true := by
  rw [lengthOk, ht, Bool.and_true]
  exact decide_eq_true (Nat.succ_le_succ hlen)

theorem beginRefusal_ghost_free {s : State} (h : ghostInUse s = false) : beginRefusal s .ghost = none := by
  rw [beginRefusal, h]
  rfl

theorem beginRefusal_ghost_inUse {s : State} (h : ghostInUse s = true) : beginRefusal s .ghost = some .inUse := by
  rw [beginRefusal, if_pos h]

/-- Settles O32: the target-state test, then the count test, for each target. -/
theorem loadBeginOpensALoad : Obligations.LoadBeginOpensALoad := by
  intro tag c1 c0 k ox2 ox1 ox0 oy2 oy1 oy0 first b s hrun count moving code packet loading inUse refused
  have hcode : code = bankByte b := by cases b <;> rfl
  have hcount : ∀ t rest, (word16At (t :: c1 :: c0 :: rest) 1).toNat = count := fun t rest => word16At_one t c1 c0 rest
  have hbank : exec packet s = .next (takeLoadBegin tag [bankByte b, c1, c0, k, ox2, ox1, ox0, oy2, oy1, oy0] s) := by
    rw [← exec_loadBegin hrun (lengthOk_loadBegin_bank ..), ← hcode]
  have htarget := targetOf_bankByte b
  have hghost : exec (.loadBegin tag [2, c1, c0]) s = .next (takeLoadBegin tag [2, c1, c0] s) := exec_loadBegin hrun rfl
  have hdirections : exec (.loadBegin tag [3, c1, c0]) s = .next (takeLoadBegin tag [3, c1, c0] s) :=
    exec_loadBegin hrun rfl
  have hglyph : exec (.loadBegin tag [4, c1, c0, first]) s = .next (takeLoadBegin tag [4, c1, c0, first] s) :=
    exec_loadBegin hrun rfl
  refine ⟨fun hactive hfree hlo hhi => ?_, fun hactive => ?_, fun ⟨hready, hpin⟩ => ?_, fun hactive hfree hout => ?_,
    fun hle => ?_, fun hlt => ?_, fun hstill hlo hhi => ?_, fun hstill hout => ?_, fun hmoving => ?_, fun hlo hhi => ?_,
    fun hout => ?_, fun target rest htarget hlen => ?_⟩
  · rw [hbank, takeLoadBegin_opens htarget ((beginRefusal_bank s b).trans (bankRefusal_free hactive hfree))
      (by rw [countOk_bank_iff, hcount]; exact ⟨hlo, hhi⟩), beginLoad_bank, hcount]
    rfl
  · rw [hbank, takeLoadBegin_refused htarget ((beginRefusal_bank s b).trans (bankRefusal_active hactive))]
  · rw [hbank, takeLoadBegin_refused htarget ((beginRefusal_bank s b).trans (bankRefusal_inUse hready hpin))]
  · rw [hbank, takeLoadBegin_count htarget ((beginRefusal_bank s b).trans (bankRefusal_free hactive hfree))
      (by rw [countOk_bank_iff, hcount]; exact hout)]
  · rw [hdirections, takeLoadBegin_opens (target := .directions) rfl rfl
      (by rw [hcount]; exact decide_eq_true hle), hcount]
    rfl
  · rw [hdirections, takeLoadBegin_count (target := .directions) rfl rfl
      (by rw [hcount]; exact fun h => absurd (of_decide_eq_true h) (by omega))]
  · rw [hghost, takeLoadBegin_opens (target := .ghost) rfl (beginRefusal_ghost_free (ghostInUse_eq_false hstill))
      (by rw [hcount, countOk, Bool.and_eq_true]; exact ⟨decide_eq_true hlo, decide_eq_true hhi⟩), hcount]
    rfl
  · rw [hghost, takeLoadBegin_count (target := .ghost) rfl (beginRefusal_ghost_free (ghostInUse_eq_false hstill))
      (by rw [hcount, countOk, Bool.and_eq_true, decide_eq_true_eq, decide_eq_true_eq]; omega)]
  · rw [hghost, takeLoadBegin_refused (target := .ghost) rfl (beginRefusal_ghost_inUse ((ghostInUse_iff s).mpr hmoving))]
  · rw [hglyph, takeLoadBegin_opens (target := .glyph) rfl rfl (by
      rw [hcount, countOk, Bool.and_eq_true, Bool.and_eq_true]
      exact ⟨⟨decide_eq_true hlo, decide_eq_true (by omega)⟩, decide_eq_true hhi⟩), hcount]
    rfl
  · rw [hglyph, takeLoadBegin_count (target := .glyph) rfl rfl (by
      rw [hcount, countOk, Bool.and_eq_true, Bool.and_eq_true]
      rintro ⟨⟨hlo, -⟩, hhi⟩
      have hlo := of_decide_eq_true hlo
      have hhi : first.toNat % 16 + count ≤ 16 := of_decide_eq_true hhi
      omega)]
  · rw [exec_loadBegin hrun (lengthOk_loadBegin_unknown (targetOf_none htarget) hlen),
      takeLoadBegin_unknown (targetOf_none htarget)]

/-! ## The tests of LOAD_DATA and LOAD_END (R72, R74) -/

section
variable {s : State} {tag t : Byte} {c : PacketClass} {rest payload : List Byte} {target : Target}

theorem loadTests_unknown (ht : targetOf t = none) :
    loadTests tag c (t :: rest) s = .inl (refuseClass tag c .field s) := by
  rw [loadTests, show targetOf (byteAt (t :: rest) 0) = _ from ht]

theorem loadTests_inUse (ht : targetOf t = some .ghost) (hghost : ghostInUse s = true) :
    loadTests tag c (t :: rest) s = .inl (refuseClass tag c .inUse s) := by
  rw [loadTests, show targetOf (byteAt (t :: rest) 0) = _ from ht]
  exact if_pos ⟨rfl, hghost⟩

/-- No load of the target is open. -/
theorem loadTests_closed (ht : targetOf t = some target) (hghost : target = .ghost → ghostInUse s = false)
    (hopen : openLoad s.tbs target = none) : loadTests tag c (t :: rest) s =
      .inl (refuseClass tag c (if targetActive s.tbs target then .active else .sequence) s) := by
  rw [loadTests, show targetOf (byteAt (t :: rest) 0) = _ from ht]
  dsimp only
  rw [if_neg (fun ⟨hg, hu⟩ => by rw [hghost hg] at hu; cases hu), hopen]

theorem loadTests_open (ht : targetOf t = some target) (hghost : target = .ghost → ghostInUse s = false)
    {cursor count : Nat} (hopen : openLoad s.tbs target = some (cursor, count)) :
    loadTests tag c (t :: rest) s = .inr (target, cursor, count) := by
  rw [loadTests, show targetOf (byteAt (t :: rest) 0) = _ from ht]
  dsimp only
  rw [if_neg (fun ⟨hg, hu⟩ => by rw [hghost hg] at hu; cases hu), hopen]

theorem takeLoadData_inl {u : State} (h : loadTests tag .loadData payload s = .inl u) :
    takeLoadData tag payload s = u := by
  rw [takeLoadData, h]

theorem takeLoadEnd_inl {u : State} (h : loadTests tag .loadEnd payload s = .inl u) : takeLoadEnd tag payload s = u := by
  rw [takeLoadEnd, h]

/-- The outcomes of a LOAD_DATA on an open load (R72). -/
theorem takeLoadData_open {i1 i0 : Byte} {data : List Byte} {cursor count index : Nat}
    (h : loadTests tag .loadData (t :: i1 :: i0 :: data) s = .inr (target, cursor, count))
    (hindex : i1.toNat * 256 + i0.toNat = index) :
    (index = cursor → index + data.length / recordSize target ≤ count →
      takeLoadData tag (t :: i1 :: i0 :: data) s = storeRecords target data s) ∧
    (index ≠ cursor → takeLoadData tag (t :: i1 :: i0 :: data) s =
      offer tag (.error 0x11 .sequence (some cursor)) s) ∧
    (index = cursor → count < index + data.length / recordSize target →
      takeLoadData tag (t :: i1 :: i0 :: data) s = offer tag (.error 0x11 .overflow (some cursor)) s) := by
  have hword : (word16At (t :: i1 :: i0 :: data) 1).toNat = index := (word16At_one t i1 i0 data).trans hindex
  rw [takeLoadData, h]
  dsimp only
  rw [hword, show (t :: i1 :: i0 :: data).drop 3 = data from rfl]
  refine ⟨fun heq hroom => ?_, fun hne => if_pos hne, fun heq hfull => ?_⟩
  · rw [if_neg (not_not_intro heq), if_neg (Nat.not_lt.mpr hroom)]
  · rw [if_neg (not_not_intro heq), if_pos hfull]
    rfl

/-- The outcomes of a LOAD_END on an open load (R74). -/
theorem takeLoadEnd_open {hi lo : Byte} {cursor count : Nat}
    (h : loadTests tag .loadEnd [t, hi, lo] s = .inr (target, cursor, count)) :
    (cursor < count → takeLoadEnd tag [t, hi, lo] s = offer tag (.error 0x12 .short none) s) ∧
    (count ≤ cursor → takeLoadEnd tag [t, hi, lo] s = closeLoad target tag (hi ++ lo) s) := by
  rw [takeLoadEnd, h]
  exact ⟨fun hshort => if_pos hshort, fun hfull => if_neg (Nat.not_lt.mpr hfull)⟩

end

/-! ## Open loads -/

theorem openLoad_bankTarget (t : Tbs) (b : BankId) : openLoad t (bankTarget b) =
    if (bankOf t b).state = .loading then some ((bankOf t b).cursor, (bankOf t b).count) else none := by
  cases b <;> rfl

theorem targetActive_bank (t : Tbs) (b : BankId) : targetActive t (bankTarget b) = ((bankOf t b).state == .active) := by
  cases b <;> rfl

theorem loadCrc_bank (t : Tbs) (b : BankId) : loadCrc t (bankTarget b) = (bankOf t b).runningCrc := by cases b <;> rfl

theorem bankTarget_ne_ghost (b : BankId) : bankTarget b ≠ .ghost := by cases b <;> decide

section
variable {s : State} {tag t : Byte} {c : PacketClass} {rest : List Byte} {b : BankId}

theorem loadTests_bank_open (ht : targetOf t = some (bankTarget b))
    (hloading : (bankOf s.tbs b).state = .loading) :
    loadTests tag c (t :: rest) s = .inr (bankTarget b, (bankOf s.tbs b).cursor, (bankOf s.tbs b).count) :=
  loadTests_open ht (fun h => absurd h (bankTarget_ne_ghost b)) ((openLoad_bankTarget ..).trans (if_pos hloading))

theorem loadTests_bank_active (ht : targetOf t = some (bankTarget b))
    (hactive : (bankOf s.tbs b).state = .active) :
    loadTests tag c (t :: rest) s = .inl (refuseClass tag c .active s) := by
  rw [loadTests_closed ht (fun h => absurd h (bankTarget_ne_ghost b))
    ((openLoad_bankTarget ..).trans (if_neg (by rw [hactive]; nofun))), targetActive_bank, hactive]
  rfl

theorem loadTests_bank_closed (ht : targetOf t = some (bankTarget b))
    (hloading : (bankOf s.tbs b).state ≠ .loading) (hactive : (bankOf s.tbs b).state ≠ .active) :
    loadTests tag c (t :: rest) s = .inl (refuseClass tag c .sequence s) := by
  rw [loadTests_closed ht (fun h => absurd h (bankTarget_ne_ghost b)) ((openLoad_bankTarget ..).trans (if_neg hloading)),
    targetActive_bank, beq_eq_false_iff_ne.mpr hactive]
  rfl

end

/-! ## LOAD_DATA (R72) -/

/-- A LOAD_DATA of whole records. -/
theorem lengthOk_loadData {t i1 i0 : Byte} {data : List Byte} (hlen : data.length ≤ 237)
    (hwhole : ∀ target, targetOf t = some target → data.length % recordSize target = 0) :
    lengthOk .loadData (t :: i1 :: i0 :: data) = true := by
  have hsize : data.length + 1 + 1 + 1 ≤ 240 := by omega
  rw [lengthOk, Bool.and_eq_true]
  refine ⟨decide_eq_true hsize, ?_⟩
  split
  next target ht => exact beq_iff_eq.mpr (hwhole target ht)
  next => rfl

theorem exec_loadData {s : State} (hrun : Running s) {tag t i1 i0 : Byte} {data : List Byte} (hlen : data.length ≤ 237)
    (hwhole : ∀ target, targetOf t = some target → data.length % recordSize target = 0) :
    exec (.loadData tag (t :: i1 :: i0 :: data)) s = .next (takeLoadData tag (t :: i1 :: i0 :: data) s) :=
  whileRunning_takeClass hrun (lengthOk_loadData hlen hwhole) tag

/-- A bank with as many more entries as were mapped from the pieces of a run. -/
theorem bankRecords_eq (b : Bank) {records : List SnapEntry} {n : Nat} (h : records.length = n) (crc : Word16) :
    bankRecords b records crc =
      { b with cursor := b.cursor + n, runningCrc := crc, entries := b.entries ++ records } := by
  rw [bankRecords, h]

/-- An accepted LOAD_DATA of a bank. -/
theorem storeRecords_bank (b : BankId) (data : List Byte) (s : State) : storeRecords (bankTarget b) data s =
    { s with tbs := setBank s.tbs b { bankOf s.tbs b with
      cursor := (bankOf s.tbs b).cursor + data.length / 10, runningCrc := crcBytes (bankOf s.tbs b).runningCrc data,
      entries := (bankOf s.tbs b).entries ++ (pieces 10 (data.length / 10) data).map entryOfBytes } } := by
  have hlength : ((pieces 10 (data.length / 10) data).map entryOfBytes).length = data.length / 10 := by
    rw [List.length_map, pieces_length]
  have hstore : storeRecords (bankTarget b) data s = s.withTbs (setBank s.tbs b (bankRecords (bankOf s.tbs b)
      ((pieces 10 (data.length / 10) data).map entryOfBytes) (crcBytes (bankOf s.tbs b).runningCrc data))) := by
    cases b <;> rfl
  rw [hstore, bankRecords_eq _ hlength]
  rfl

/-- A staging record with as many more records as were mapped from the pieces of a run. -/
theorem stageRecords_eq {α : Type} (g : Staging α) {records : List α} {n : Nat} (h : records.length = n) (crc : Word16) :
    stageRecords g records crc =
      { g with cursor := g.cursor + n, runningCrc := crc, records := g.records ++ records } := by
  rw [stageRecords, h]

theorem pieces_forall_length {size n : Nat} {data : List Byte} (h : size * n ≤ data.length) :
    ∀ r ∈ pieces size n data, r.length = size := by
  induction n generalizing data with
  | zero => exact List.forall_mem_nil _
  | succ n ih =>
    rw [Nat.mul_succ] at h
    refine List.forall_mem_cons.mpr ⟨?_, ih ?_⟩
    · rw [List.length_take]; omega
    · rw [List.length_drop]; omega

/-- A glyph record of eight bytes (R71, R177). -/
theorem glyphRecordOfBytes_eight (index : Nat) {r : List Byte} (h : r.length = 8) :
    glyphRecordOfBytes index r =
      if index % 33 = 0 then .header ((r.getD 0 0).toNat % 32) ((r.getD 1 0).toNat % 32)
      else .row (r.getD 0 0 ++ r.getD 1 0 ++ r.getD 2 0 ++ r.getD 3 0 ++ r.getD 4 0 ++ r.getD 5 0 ++ r.getD 6 0 ++
        r.getD 7 0) := by
  match r, h with
  | [b7, b6, b5, b4, b3, b2, b1, b0], _ =>
    have hrow : BitVec.ofNat 64 (natOfBytes [b7, b6, b5, b4, b3, b2, b1, b0]) =
        b7 ++ b6 ++ b5 ++ b4 ++ b3 ++ b2 ++ b1 ++ b0 := by
      rw [natOfBytes_eight]
      exact BitVec.eq_of_toNat_eq (by rw [BitVec.toNat_ofNat, Nat.mod_eq_of_lt (BitVec.isLt _)])
    exact congrArg (fun w => if index % 33 = 0 then GlyphRecord.header (b7.toNat % 32) (b6.toNat % 32) else .row w) hrow

/-- Settles O33: the tests in their order, then what each target stores. -/
theorem loadDataStoresRecords : Obligations.LoadDataStoresRecords := by
  intro tag i1 i0 data b s hrun hlen code index moving bank packet refused byte records ghost direction glyph
  have hcode : code = bankByte b := by cases b <;> rfl
  have hexec : ∀ {t : Byte} {target : Target}, targetOf t = some target → data.length % recordSize target = 0 →
      exec (packet t) s = .next (takeLoadData tag (t :: i1 :: i0 :: data) s) := fun ht hwhole =>
    exec_loadData hrun hlen fun _ h => Option.some.inj (ht.symm.trans h) ▸ hwhole
  refine ⟨fun hwhole => ?_, fun hwhole => ?_, fun hwhole => ?_, fun hwhole => ?_, fun t ht => ?_⟩
  · have hbank : exec (packet code) s = .next (takeLoadData tag (bankByte b :: i1 :: i0 :: data) s) := by
      rw [hcode]
      exact hexec (targetOf_bankByte b) (by cases b <;> exact hwhole)
    have hsize : recordSize (bankTarget b) = 10 := by cases b <;> rfl
    have htarget := targetOf_bankByte b
    have hopen := fun hloading => takeLoadData_open (index := index) (loadTests_bank_open (s := s) (tag := tag)
      (c := .loadData) (rest := i1 :: i0 :: data) htarget hloading) rfl
    rw [hbank]
    refine ⟨fun hloading heq hroom => ?_, fun hloading hne => ?_, fun hloading heq hfull => ?_, fun hactive => ?_,
      fun hloading hactive => ?_⟩
    · obtain ⟨hstore, -, -⟩ := hopen hloading
      rw [hstore heq (by rw [hsize]; exact hroom), storeRecords_bank]
    · obtain ⟨-, hsequence, -⟩ := hopen hloading
      rw [hsequence hne]
    · obtain ⟨-, -, hoverflow⟩ := hopen hloading
      rw [hoverflow heq (by rw [hsize]; exact hfull)]
    · rw [takeLoadData_inl (loadTests_bank_active htarget hactive)]
      rfl
    · rw [takeLoadData_inl (loadTests_bank_closed htarget hloading hactive)]
      rfl
  · intro g
    rw [hexec (t := 2) (target := .ghost) rfl hwhole]
    refine ⟨fun hmoving => ?_, fun hstill hclosed => ?_, fun hstill hloading => ?_⟩
    · rw [takeLoadData_inl (loadTests_inUse rfl ((ghostInUse_iff s).mpr hmoving))]
      rfl
    · rw [takeLoadData_inl (loadTests_closed (target := .ghost) rfl (fun _ => ghostInUse_eq_false hstill)
        (if_neg hclosed))]
      rfl
    · obtain ⟨hstore, hsequence, hoverflow⟩ := takeLoadData_open (index := index) (loadTests_open (tag := tag)
        (rest := i1 :: i0 :: data) (t := 2) (target := .ghost) rfl (fun _ => ghostInUse_eq_false hstill)
        (if_pos hloading)) rfl
      refine ⟨fun heq hroom => ?_, fun hne => congrArg _ (hsequence hne), fun heq hfull => congrArg _ (hoverflow heq hfull)⟩
      have hrecords : ((records 12).map ghostOfBytes).length = data.length / 12 := by
        rw [List.length_map]
        exact pieces_length ..
      rw [hstore heq hroom]
      exact congrArg (fun x => Host.Outcome.next (s.withTbs { s.tbs with ghostStage := x }))
        (stageRecords_eq g hrecords _)
  · intro g
    rw [hexec (t := 3) (target := .directions) rfl hwhole]
    refine ⟨fun hclosed => ?_, fun hloading => ?_⟩
    · rw [takeLoadData_inl (loadTests_closed (target := .directions) rfl nofun (if_neg hclosed))]
      rfl
    · obtain ⟨hstore, hsequence, hoverflow⟩ := takeLoadData_open (index := index) (loadTests_open (tag := tag)
        (rest := i1 :: i0 :: data) (t := 3) (target := .directions) rfl nofun (if_pos hloading)) rfl
      refine ⟨fun heq hroom => ?_, fun hne => congrArg _ (hsequence hne), fun heq hfull => congrArg _ (hoverflow heq hfull)⟩
      have hrecords : ((records 4).map directionOfBytes).length = data.length / 4 := by
        rw [List.length_map]
        exact pieces_length ..
      rw [hstore heq hroom]
      exact congrArg (fun x => Host.Outcome.next (s.withTbs { s.tbs with directionStage := x }))
        (stageRecords_eq g hrecords _)
  · intro g
    rw [hexec (t := 4) (target := .glyph) rfl hwhole]
    refine ⟨fun hclosed => ?_, fun hloading => ?_⟩
    · rw [takeLoadData_inl (loadTests_closed (target := .glyph) rfl nofun (if_neg hclosed))]
      rfl
    · obtain ⟨hstore, hsequence, hoverflow⟩ := takeLoadData_open (index := index) (loadTests_open (tag := tag)
        (rest := i1 :: i0 :: data) (t := 4) (target := .glyph) rfl nofun (if_pos hloading)) rfl
      refine ⟨fun heq hroom => ?_, fun hne => congrArg _ (hsequence hne), fun heq hfull => congrArg _ (hoverflow heq hfull)⟩
      have hglyphs : ((records 8).mapIdx fun i r => glyphRecordOfBytes (g.cursor + i) r) = (records 8).mapIdx glyph := by
        refine List.mapIdx_eq_mapIdx_iff.mpr fun i hi => glyphRecordOfBytes_eight _ ?_
        exact pieces_forall_length (Nat.mul_div_le ..) _ (List.getElem_mem hi)
      have hrecords : ((records 8).mapIdx glyph).length = data.length / 8 := by
        rw [List.length_mapIdx]
        exact pieces_length ..
      rw [hstore heq hroom]
      refine congrArg (fun x => Host.Outcome.next (s.withTbs { s.tbs with glyphStage := x }))
        (Eq.trans ?_ (stageRecords_eq g hrecords _))
      exact congrArg (fun l => stageRecords g l _) hglyphs
  · show exec (.loadData tag (t :: i1 :: i0 :: data)) s = _
    rw [exec_loadData hrun hlen (fun target h => by rw [targetOf_none ht] at h; cases h),
      takeLoadData_inl (loadTests_unknown (targetOf_none ht))]
    rfl

end Sys2Proof.Machine

/-! LOAD_END, ACTIVATE and the verify (R74, R80, R81, R85 to R90). -/

namespace Sys2Proof.Machine

/-! ## LOAD_END (R74, R90) -/

theorem exec_loadEnd {s : State} (hrun : Running s) (tag t hi lo : Byte) :
    exec (.loadEnd tag [t, hi, lo]) s = .next (takeLoadEnd tag [t, hi, lo] s) := whileRunning_takeClass hrun rfl tag

theorem closeLoad_bank_match {b : BankId} {s : State} {w : Word16} (h : (bankOf s.tbs b).runningCrc = w) (tag : Byte) :
    closeLoad (bankTarget b) tag w s = startBuild b tag w s := by
  have hcrc : (loadCrc s.tbs (bankTarget b) == w) = true := by rw [loadCrc_bank]; exact beq_iff_eq.mpr h
  cases b <;> exact if_pos hcrc

theorem closeLoad_bank_mismatch {b : BankId} {s : State} {w : Word16} (h : (bankOf s.tbs b).runningCrc ≠ w) (tag : Byte) :
    closeLoad (bankTarget b) tag w s = bankMismatch b tag s := by
  have hcrc : ¬(loadCrc s.tbs (bankTarget b) == w) = true := by rw [loadCrc_bank]; exact fun heq => h (beq_iff_eq.mp heq)
  cases b <;> exact if_neg hcrc

theorem stageOrCommit_locked {s : State} (hlock : s.vpl.lock = .locked) (target : Target) (tag : Byte) :
    stageOrCommit target tag s = stageTarget target tag s := if_pos ((isLocked_iff s).mpr hlock)

/-- The outcomes of a LOAD_END on a small target whose stage is `state`, `cursor`, `count` and `crc`. -/
theorem loadEnd_small {s : State} {tag t hi lo : Byte} {target : Target} {state : StageState} {cursor count : Nat}
    {crc : Word16} (hrun : Running s) (ht : targetOf t = some target) (hghost : target = .ghost → ghostInUse s = false)
    (hopen : openLoad s.tbs target = if state = .loading then some (cursor, count) else none)
    (hinactive : targetActive s.tbs target = false)
    (hclose : ∀ w, closeLoad target tag w s = if crc == w then stageOrCommit target tag s else stageMismatch target tag s) :
    (state ≠ .loading → exec (.loadEnd tag [t, hi, lo]) s = .next (offer tag (.error 0x12 .sequence none) s)) ∧
    (state = .loading → cursor < count →
      exec (.loadEnd tag [t, hi, lo]) s = .next (offer tag (.error 0x12 .short none) s)) ∧
    (state = .loading → count ≤ cursor → crc = hi ++ lo → s.vpl.lock = .locked →
      exec (.loadEnd tag [t, hi, lo]) s = .next (stageTarget target tag s)) ∧
    (state = .loading → count ≤ cursor → crc = hi ++ lo → s.vpl.lock ≠ .locked →
      exec (.loadEnd tag [t, hi, lo]) s = .next (stageOrCommit target tag s)) ∧
    (state = .loading → count ≤ cursor → crc ≠ hi ++ lo →
      exec (.loadEnd tag [t, hi, lo]) s = .next (stageMismatch target tag s)) := by
  rw [exec_loadEnd hrun]
  by_cases hloading : state = .loading
  · have ⟨hshort, hfull⟩ := takeLoadEnd_open (hi := hi) (lo := lo)
      (loadTests_open (tag := tag) (c := .loadEnd) (rest := [hi, lo]) ht hghost (hopen.trans (if_pos hloading)))
    have hmatch : count ≤ cursor → crc = hi ++ lo → takeLoadEnd tag [t, hi, lo] s = stageOrCommit target tag s :=
      fun hle hcrc => by rw [hfull hle, hclose, if_pos (beq_iff_eq.mpr hcrc)]
    refine ⟨fun h => absurd hloading h, fun _ hlt => congrArg _ (hshort hlt), fun _ hle hcrc hlock => ?_,
      fun _ hle hcrc _ => congrArg _ (hmatch hle hcrc), fun _ hle hcrc => ?_⟩
    · rw [hmatch hle hcrc, stageOrCommit_locked hlock]
    · rw [hfull hle, hclose, if_neg fun heq => hcrc (beq_iff_eq.mp heq)]
  · refine ⟨fun _ => ?_, fun h => absurd h hloading, fun h => absurd h hloading, fun h => absurd h hloading,
      fun h => absurd h hloading⟩
    rw [takeLoadEnd_inl (loadTests_closed ht hghost (hopen.trans (if_neg hloading))), hinactive]
    rfl

/-- A small target's content current at once (R90). -/
theorem stageOrCommit_unlocked {s : State} (hlock : s.vpl.lock ≠ .locked) (tag : Byte) :
    stageOrCommit .ghost tag s = offer tag (.table (some .ghost) (.committed s.tbs.ghostStage.count))
      { s with tbs := { s.tbs with ghosts := s.tbs.ghostStage.records, ghostStage := ⟨.idle, 0, 0, 0xFFFF, [], 0, 0⟩ } } ∧
    stageOrCommit .directions tag s =
      searchRequest (offer tag (.table (some .directions) (.committed s.tbs.directionStage.count))
        { s with tbs := { s.tbs with
          directions := s.tbs.directionStage.records, directionStage := ⟨.idle, 0, 0, 0xFFFF, [], 0, 0⟩ } }) ∧
    stageOrCommit .glyph tag s = offer tag (.table (some .glyph) (.committed s.tbs.glyphStage.count))
      { s with tbs := { s.tbs with
        glyphs := mergeGlyphs s.tbs.glyphStage.firstGlyph s.tbs.glyphStage.records s.tbs.glyphs,
        glyphStage := ⟨.idle, 0, 0, 0xFFFF, [], 0, 0⟩ } } := by
  have hunlocked : ¬isLocked s = true := fun h => hlock ((isLocked_iff s).mp h)
  exact ⟨if_neg hunlocked, if_neg hunlocked, if_neg hunlocked⟩

/-- The rows of a loaded glyph behind its header (R71). -/
theorem glyphOfRecords_header (hx hy : Nat) (rows : List (BitVec 64)) :
    glyphOfRecords (.header hx hy :: rows.map GlyphRecord.row) = ⟨hx, hy, rows⟩ := by
  rw [glyphOfRecords, List.filterMap_cons_none (by rfl), List.filterMap_map]
  exact congrArg (Glyph.mk hx hy) (List.filterMap_some)

/-- Settles O34. -/
theorem loadEndClosesALoad : Obligations.LoadEndClosesALoad := by
  refine ⟨?_, glyphOfRecords_header⟩
  intro tag hi lo b s hrun code target bank packet refused stored told tests moving g d y
  have hcode : code = bankByte b := by cases b <;> rfl
  have htarget : target = bankTarget b := by cases b <;> rfl
  have hbank : exec (packet code) s = .next (takeLoadEnd tag [bankByte b, hi, lo] s) := by
    rw [hcode]
    exact exec_loadEnd hrun ..
  have hopen := fun hloading => takeLoadEnd_open (hi := hi) (lo := lo)
    (loadTests_bank_open (s := s) (tag := tag) (c := .loadEnd) (rest := [hi, lo]) (targetOf_bankByte b) hloading)
  refine ⟨fun hloading hfull hcrc => ?_, fun hloading hfull hcrc => ?_, fun hloading hshort => ?_, fun hactive => ?_,
    fun hloading hactive => ?_, fun hmoving => ?_, fun hstill => ?_, ?_, ?_, fun t ht => ?_⟩
  · rw [hbank, (hopen hloading).2 hfull, closeLoad_bank_match hcrc]
    rfl
  · rw [hbank, (hopen hloading).2 hfull, closeLoad_bank_mismatch hcrc, htarget]
    rfl
  · rw [hbank, (hopen hloading).1 hshort]
  · rw [hbank, takeLoadEnd_inl (loadTests_bank_active (targetOf_bankByte b) hactive)]
    rfl
  · rw [hbank, takeLoadEnd_inl (loadTests_bank_closed (targetOf_bankByte b) hloading hactive)]
    rfl
  · show exec (.loadEnd tag [2, hi, lo]) s = _
    rw [exec_loadEnd hrun, takeLoadEnd_inl (loadTests_inUse rfl ((ghostInUse_iff s).mpr hmoving))]
    rfl
  · obtain ⟨hclosed, hshort, hkept, hnow, hgone⟩ := loadEnd_small (t := 2) (hi := hi) (lo := lo) (tag := tag) hrun rfl
      (fun _ => ghostInUse_eq_false hstill) (target := .ghost) rfl rfl fun _ => rfl
    refine ⟨hclosed, hshort, hkept, fun h hle hcrc hlock => ?_, hgone⟩
    exact (hnow h hle hcrc hlock).trans (congrArg _ (stageOrCommit_unlocked hlock tag).1)
  · obtain ⟨hclosed, hshort, hkept, hnow, hgone⟩ := loadEnd_small (t := 3) (hi := hi) (lo := lo) (tag := tag) hrun rfl
      nofun (target := .directions) rfl rfl fun _ => rfl
    refine ⟨hclosed, hshort, hkept, fun h hle hcrc hlock => ?_, hgone⟩
    exact (hnow h hle hcrc hlock).trans (congrArg _ (stageOrCommit_unlocked hlock tag).2.1)
  · obtain ⟨hclosed, hshort, hkept, hnow, hgone⟩ := loadEnd_small (t := 4) (hi := hi) (lo := lo) (tag := tag) hrun rfl
      nofun (target := .glyph) rfl rfl fun _ => rfl
    refine ⟨mergeGlyphs y.firstGlyph y.records s.tbs.glyphs, List.length_mapIdx, fun i old hold => ?_, hclosed, hshort,
      hkept, fun h hle hcrc hlock => ?_, hgone⟩
    · exact (congrArg (·[i]?) (if_pos rfl).symm).trans (glyphs_after { y with state := .staged } _ i old hold)
    · exact (hnow h hle hcrc hlock).trans (congrArg _ (stageOrCommit_unlocked hlock tag).2.2)
  · show exec (.loadEnd tag [t, hi, lo]) s = _
    rw [exec_loadEnd hrun, takeLoadEnd_inl (loadTests_unknown (targetOf_none ht))]
    rfl

end Sys2Proof.Machine

/-! ACTIVATE and the verify (R80, R81, R85 to R89). -/

namespace Sys2Proof.Machine

/-! ## ACTIVATE (R80, R81) -/

section
variable {s : State} {tag : Byte}

theorem exec_activate (hrun : Running s) (t : Byte) : exec (.activate tag [t]) s = .next (takeActivate tag [t] s) :=
  whileRunning_takeClass hrun rfl tag

theorem takeActivate_bank (b : BankId) : takeActivate tag [bankByte b] s = activateBank tag b s := by cases b <;> rfl

theorem activateTargetOf_none {b : Byte} (h : 3 ≤ b.toNat) : activateTargetOf b = none := by
  unfold activateTargetOf
  split <;> simp_all

theorem takeActivate_unknown {t : Byte} (h : 3 ≤ t.toNat) :
    takeActivate tag [t] s = offer tag (.error 0x13 .field none) s := by
  rw [takeActivate, show activateTargetOf (byteAt [t] 0) = none from activateTargetOf_none h]
  rfl

variable {b : BankId}

theorem activateBank_active (h : (bankOf s.tbs b).state = .active) : activateBank tag b s = dropMark s := by
  rw [activateBank, h]

theorem activateBank_ready (h : (bankOf s.tbs b).state = .ready) (hfate : (bankOf s.tbs b).fate = none) :
    activateBank tag b s = setMark ⟨some b, tag⟩ s := by
  rw [activateBank, h, hfate]
  rfl

theorem activateBank_fated (h : (bankOf s.tbs b).state = .ready) (hfate : (bankOf s.tbs b).fate ≠ none) :
    activateBank tag b s = offer tag (.error 0x13 .inUse none) s := by
  rw [activateBank, h]
  exact if_pos (Option.isSome_iff_ne_none.mpr hfate)

theorem activateBank_other (hready : (bankOf s.tbs b).state ≠ .ready) (hactive : (bankOf s.tbs b).state ≠ .active) :
    activateBank tag b s = offer tag (.error 0x13 .notReady none) s := by
  unfold activateBank
  split
  next h => exact absurd h hactive
  next h => exact absurd h hready
  next => rfl

end

theorem setMark_locked {s : State} (h : s.vpl.lock = .locked) (m : Mark) :
    setMark m s = { s with tbs := { s.tbs with mark := some m } } := if_pos ((isLocked_iff s).mpr h)

/-- The state with a mark set. -/
def marking (m : Mark) (s : State) : State := s.withTbs { s.tbs with mark := some m }

theorem setMark_unlocked {s : State} (h : s.vpl.lock ≠ .locked) (m : Mark) :
    setMark m s = searchRequest (applyMark (marking m s)) := by
  rw [setMark, if_neg fun hl => h ((isLocked_iff s).mp hl)]
  rfl

/-- A verify that runs is one of the ACTIVE bank, which a mark taking effect aborts (R88). -/
theorem abortedVerify_marking {s : State} (hok : TablesOk s) (m : Mark) :
    abortedVerify (marking m s).tbs = s.tbs.verify := by
  have htbs := (tablesOk_iff s).mp hok
  show (s.tbs.verify.filter fun j => decide (activeBank s.tbs = some j.bank)) = s.tbs.verify
  cases hj : s.tbs.verify with
  | none => rfl
  | some j =>
    have hactive : activeBank s.tbs = some j.bank :=
      (htbs.activeBank_eq_some_iff j.bank).mpr (htbs.verify j.bank (by rw [hj]; rfl))
    exact if_pos (decide_eq_true hactive)

/-- A mark that takes effect at once, with its search request: the banks, the verify, the reports, and what stays. -/
theorem setMark_takes_effect {s : State} {target : Option BankId} (tag : Byte) (hlock : s.vpl.lock ≠ .locked)
    (hok : TablesOk s) (htarget : ∀ b, target = some b → (bankOf s.tbs b).state = .ready ∧ (bankOf s.tbs b).fate = none) :
    let t := setMark ⟨target, tag⟩ s
    activeBank t.tbs = target ∧
    (∀ a, bankOf t.tbs a = if target = some a then { bankOf s.tbs a with state := .active }
      else if activeBank s.tbs = some a then { bankOf s.tbs a with state := .ready } else bankOf s.tbs a) ∧
    t.tbs.mark = none ∧ t.tbs.snapDown = false ∧ t.tbs.verify = none ∧
    t.tbs.ghosts = s.tbs.ghosts ∧ t.tbs.directions = s.tbs.directions ∧ t.tbs.glyphs = s.tbs.glyphs ∧
    Offered s t ((s.tbs.verify.toList.map fun j => ⟨j.tag, .table (some (bankTarget j.bank)) .aborted⟩) ++
      [⟨tag, .table (target.map bankTarget) .activated⟩]) ∧
    SearchAsked s t ∧ t.pds.settings = s.pds.settings ∧ t.vpl = s.vpl ∧ t.gcu = s.gcu ∧ t.ovc = s.ovc := by
  intro t
  have htbsOk := (tablesOk_iff s).mp hok
  have hokAfter : TablesOk t := (quiet_setMark (m := ⟨target, tag⟩) htarget).tables hok
  obtain ⟨x, heq, hbanks, hx⟩ := applyMark_eq (marking ⟨target, tag⟩ s)
  have haborted := abortedVerify_marking hok ⟨target, tag⟩
  rw [haborted] at heq hx
  have ht : t = searchRequest (applyMark (marking ⟨target, tag⟩ s)) := setMark_unlocked hlock _
  obtain ⟨pin, hpin⟩ := searchRequest_tbs (applyMark (marking ⟨target, tag⟩ s))
  have htbs : t.tbs = { x with pin := pin } := by
    rw [ht, hpin, heq, offered_tbs]
    rfl
  have hbank : ∀ a, bankOf t.tbs a = if target = some a then { bankOf s.tbs a with state := .active }
      else if activeBank s.tbs = some a then { bankOf s.tbs a with state := .ready } else bankOf s.tbs a := by
    intro a
    have hsame : bankOf t.tbs a = bankOf x a := by rw [htbs]; cases a <;> rfl
    rw [hsame, hbanks]
    cases a <;> rfl
  refine ⟨?active, hbank, ?mark, ?snapDown, ?verify, ?ghosts, ?directions, ?glyphs, ?offered, ?asked, ?settings, ?vpl,
    ?gcu, ?ovc⟩
  case active =>
    have hok' := (tablesOk_iff t).mp hokAfter
    cases target with
    | some b => rw [hok'.activeBank_eq_some_iff, hbank, if_pos rfl]
    | none =>
      refine Option.eq_none_iff_forall_ne_some.mpr fun a ha => ?_
      have hactive := activeBank_state ha
      rw [hbank, if_neg (Option.some_ne_none a).symm] at hactive
      split at hactive
      next => cases hactive
      next h => exact h ((htbsOk.activeBank_eq_some_iff a).mpr hactive)
  case mark => rw [htbs, hx]
  case snapDown => rw [htbs, hx]; rfl
  case verify =>
    rw [htbs, hx]
    show (if s.tbs.verify = none then s.tbs.verify else none) = none
    split
    next h => exact h
    next => rfl
  case ghosts => rw [htbs, hx]; rfl
  case directions => rw [htbs, hx]; rfl
  case glyphs => rw [htbs, hx]; rfl
  case offered =>
    refine offered_of_frame (u := (marking ⟨target, tag⟩ s).withTbs x) ⟨?_, ?_⟩ rfl rfl
    · rw [ht, searchRequest_rlt, heq]
      rfl
    · rw [ht, searchRequest_pds, heq]
      rfl
  case asked =>
    rw [ht]
    refine (searchRequest_asked _).of_frame ?_ ?_
    · rw [heq, offered_sse]; rfl
    · rw [heq, offered_tbs, hx]; rfl
  case settings => rw [ht, searchRequest_pds, heq, offered_settings]; rfl
  case vpl => rw [ht, searchRequest_vpl, heq, offered_vpl]; rfl
  case gcu => rw [ht, searchRequest_gcu, heq, offered_gcu]; rfl
  case ovc => rw [ht, searchRequest_ovc, heq, offered_ovc]; rfl

/-- Settles O37. -/
theorem activateMarksOrTakesEffect : Obligations.ActivateMarksOrTakesEffect := by
  intro tag b s hrun code bank effect
  have hcode : exec (.activate tag [code]) s = .next (activateBank tag b s) := by
    rw [show code = bankByte b by cases b <;> rfl, exec_activate hrun, takeActivate_bank]
  have hnone : exec (.activate tag [2]) s =
      .next (if (activeBank s.tbs).isNone then dropMark s else setMark ⟨none, tag⟩ s) := exec_activate hrun 2
  have hsome : activeBank s.tbs ≠ none → ¬(activeBank s.tbs).isNone = true := fun h hn => h (Option.isNone_iff_eq_none.mp hn)
  refine ⟨fun hactive => ?_, fun hidle => ?_, fun hready hfate hlock => ?_, fun hactive hlock => ?_,
    fun hready hfate hlock hok => ?_, fun hactive hlock hok => ?_, fun hready hfate => ?_, fun hready hactive => ?_,
    fun t ht => ?_⟩
  · rw [hcode, activateBank_active hactive]
    rfl
  · rw [hnone, if_pos (by rw [hidle]; rfl)]
    rfl
  · rw [hcode, activateBank_ready hready hfate, setMark_locked hlock]
  · rw [hnone, if_neg (hsome hactive), setMark_locked hlock]
  · refine ⟨_, hcode.trans (congrArg _ (activateBank_ready hready hfate)), setMark_takes_effect tag hlock hok ?_⟩
    exact fun a ha => Option.some.inj ha ▸ ⟨hready, hfate⟩
  · exact ⟨_, hnone.trans (congrArg _ (if_neg (hsome hactive))), setMark_takes_effect tag hlock hok nofun⟩
  · rw [hcode, activateBank_fated hready hfate]
  · rw [hcode, activateBank_other hready hactive]
  · rw [exec_activate hrun, takeActivate_unknown ht]

/-! ## The verify (R85 to R89) -/

section
variable {s : State} {tag : Byte} {b : BankId} {job : VerifyJob} {upset : Word16}

theorem exec_verify (hrun : Running s) : exec (.verify tag []) s = .next (takeVerify tag s) :=
  whileRunning_takeClass hrun rfl tag

theorem takeVerify_starts (hactive : activeBank s.tbs = some b) (hidle : s.tbs.verify = none) :
    takeVerify tag s = { s with tbs := { s.tbs with verify := some ⟨b, 0, 0xFFFF, tag⟩ } } := by
  simp only [takeVerify, hactive, hidle]
  rfl

theorem takeVerify_running (hactive : activeBank s.tbs = some b) (hjob : s.tbs.verify = some job) :
    takeVerify tag s = s := by
  simp only [takeVerify, hactive, hjob]

theorem takeVerify_refused (hnone : activeBank s.tbs = none) :
    takeVerify tag s = offer tag (.error 0x14 .notReady none) s := by
  simp only [takeVerify, hnone]
  rfl

/-- The expiry of the interval: the counter is 0 again and a verify starts where one can (R86). -/
theorem intervalExpiry_eq (s : State) : intervalExpiry s = { s with tbs := { s.tbs with
    interval := 0
    verify := match activeBank s.tbs, s.tbs.verify with
      | some a, none => some ⟨a, 0, 0xFFFF, 0⟩
      | _, v => v } } := by
  cases hactive : activeBank s.tbs with
  | none =>
    rw [intervalExpiry_stays (.inl hactive)]
    rfl
  | some a =>
    cases hverify : s.tbs.verify with
    | none =>
      rw [intervalExpiry_starts hactive hverify]
      rfl
    | some j =>
      rw [intervalExpiry_stays (.inr (by rw [hverify]; nofun))]
      exact congrArg (fun v => s.withTbs { s.tbs with interval := 0, verify := v }) hverify

theorem reachesInterval_iff (s : State) : reachesInterval s = true ↔
    verifyInterval s.pds.settings ≠ 0 ∧ verifyInterval s.pds.settings ≤ s.tbs.interval + 1 := by
  rw [reachesInterval, Bool.and_eq_true, bne_iff_ne, decide_eq_true_eq]
  rfl

theorem completeVerify_match (hjob : s.tbs.verify = some job)
    (hcrc : some (verifyCrc s.tbs job upset) = (bankOf s.tbs job.bank).acceptedCrc) :
    completeVerify upset s = offer job.tag (.table (some (bankTarget job.bank)) .verified)
      { s with tbs := { s.tbs with verify := none } } := by
  rw [completeVerify, hjob]
  exact if_pos hcrc

/-- The table store after a verify that ends with another CRC (R89). -/
def damagedTbs (b : BankId) (t : Tbs) : Tbs := { leaveUse b .damaged { t with verify := none } with snapDown := true }

theorem completeVerify_mismatch (hjob : s.tbs.verify = some job)
    (hcrc : some (verifyCrc s.tbs job upset) ≠ (bankOf s.tbs job.bank).acceptedCrc) :
    completeVerify upset s = offer job.tag (.table (some (bankTarget job.bank)) .damaged)
      (s.withTbs (damagedTbs job.bank s.tbs)) := by
  rw [completeVerify, hjob]
  exact if_neg hcrc

end

theorem damagedTbs_frame (b : BankId) (t : Tbs) : damagedTbs b t = { t with
    bank0 := (damagedTbs b t).bank0, bank1 := (damagedTbs b t).bank1, mark := (damagedTbs b t).mark, verify := none,
    snapDown := true } := by
  unfold damagedTbs leaveUse
  split <;> cases b <;> rfl

theorem bankOf_damagedTbs (a b : BankId) (t : Tbs) :
    bankOf (damagedTbs b t) a = bankOf (leaveUse b .damaged { t with verify := none }) a := bankOf_same rfl rfl a

theorem damagedTbs_mark {b : BankId} {t : Tbs} (h : t.mark.map Mark.target ≠ some (some b)) :
    (damagedTbs b t).mark = t.mark := by
  unfold damagedTbs leaveUse
  split
  · exact if_neg h
  · exact setBank_mark ..

theorem damagedTbs_unpinned {b : BankId} {t : Tbs} (h : t.pin ≠ some b) :
    bankOf (damagedTbs b t) b = { bankOf t b with state := .damaged, fate := none } := by
  have hsame : bankOf { t with verify := none } b = bankOf t b := bankOf_same rfl rfl b
  have hpin : ({ t with verify := none } : Tbs).pin ≠ some b := h
  rw [bankOf_damagedTbs, leaveUse_unpinned hpin, bankOf_setBank_same, hsame]

theorem damagedTbs_pinned {b : BankId} {t : Tbs} (h : t.pin = some b) :
    bankOf (damagedTbs b t) b = { bankOf t b with state := .ready, fate := some .damaged } := by
  have hsame : bankOf { t with verify := none } b = bankOf t b := bankOf_same rfl rfl b
  have hpin : ({ t with verify := none } : Tbs).pin = some b := h
  rw [bankOf_damagedTbs, leaveUse_pinned hpin]
  refine (bankOf_same (t := setBank { t with verify := none } b _) rfl rfl b).trans ?_
  rw [bankOf_setBank_same, hsame]

theorem damagedTbs_other {a b : BankId} (h : a ≠ b) (t : Tbs) : bankOf (damagedTbs b t) a = bankOf t a := by
  rw [bankOf_damagedTbs, leaveUse_other h]
  exact bankOf_same rfl rfl a

/-- Settles O38. -/
theorem verifyChecksTheActiveBank : Obligations.VerifyChecksTheActiveBank := by
  intro tag b job upset s hrun interval
  have hexpiry : exec .verifyIntervalExpiry s = .next (intervalEvent s) := whileRunning_running hrun _
  have hcomplete : ∀ u, exec (.verifyComplete u) s = .next (completeVerify u s) := fun u => whileRunning_running hrun _
  refine ⟨fun hactive hidle => ?_, fun hactive hjob => ?_, fun hnone => ?_, fun hlock hne hle => ?_, fun hshort => ?_, rfl,
    fun n data hlen hjob hentries haccepted => ?_, fun hjob hcrc => ?_, fun hjob hcrc => ?_⟩
  · rw [exec_verify hrun, takeVerify_starts hactive hidle]
  · rw [exec_verify hrun, takeVerify_running hactive hjob]
  · rw [exec_verify hrun, takeVerify_refused hnone]
  · have hreach : (isLocked s && reachesInterval s) = true := by
      rw [Bool.and_eq_true, isLocked_iff, reachesInterval_iff]
      exact ⟨hlock, hne, hle⟩
    have hevent : intervalEvent s = intervalExpiry s := if_pos hreach
    exact hexpiry.trans (congrArg _ (hevent.trans (intervalExpiry_eq s)))
  · have hreach : ¬(isLocked s && reachesInterval s) = true := by
      rw [Bool.and_eq_true, isLocked_iff, reachesInterval_iff]
      rintro ⟨hlock, hne, hle⟩
      rcases hshort with h | h | h
      · exact h hlock
      · exact hne h
      · exact Nat.not_lt.mpr hle h
    rw [hexpiry, intervalEvent, if_neg hreach]
  · have hcrc : verifyCrc s.tbs ⟨b, 0, 0xFFFF, tag⟩ 0 = crcBytes 0xFFFF data := by
      rw [verifyCrc, hentries, List.drop_zero, flatMap_bytesOfEntry_pieces n data hlen]
      exact BitVec.xor_zero
    rw [hcomplete, completeVerify_match hjob (by rw [hcrc]; exact haccepted.symm)]
  · rw [hcomplete, completeVerify_match hjob hcrc]
  · have hframe := damagedTbs_frame job.bank s.tbs
    have hverify : (damagedTbs job.bank s.tbs).verify = none := congrArg Tbs.verify hframe
    have hpin : (damagedTbs job.bank s.tbs).pin = s.tbs.pin := by rw [hframe]
    exact ⟨s.withTbs (damagedTbs job.bank s.tbs), (hcomplete upset).trans (congrArg _ (completeVerify_mismatch hjob hcrc)),
      rfl, hverify, rfl, hpin, hframe, damagedTbs_mark, damagedTbs_unpinned, damagedTbs_pinned,
      fun a ha => damagedTbs_other ha s.tbs⟩

end Sys2Proof.Machine

/-! The object phase of a snap search (R38 to R43, R103 to R108): the cover, the reading of the entries against the budget,
and the best candidate. -/

namespace Sys2Proof.Machine

/-! ## The cover (R38 to R41) -/

/-- The quotient of R41 is the least whole number whose product with the zoom is not below (r + 1) × 65,536. -/
theorem coverRadius_spec {r zoom : Int} (hzoom : 1 ≤ zoom) :
    (r + 1) * 65536 ≤ coverRadius r zoom * zoom ∧ (coverRadius r zoom - 1) * zoom < (r + 1) * 65536 := by
  have hdiv := Int.mul_ediv_add_emod ((r + 1) * 65536 + zoom - 1) zoom
  have hlo := Int.emod_nonneg ((r + 1) * 65536 + zoom - 1) (show zoom ≠ 0 by omega)
  have hhi := Int.emod_lt_of_pos ((r + 1) * 65536 + zoom - 1) (show 0 < zoom by omega)
  have hcomm : coverRadius r zoom * zoom = zoom * (((r + 1) * 65536 + zoom - 1) / zoom) := Int.mul_comm ..
  rw [Int.sub_mul, Int.one_mul]
  omega

theorem coverRadius_range {r zoom : Int} (h0 : 0 ≤ r) (h63 : r ≤ 63) (hzoom : 1 ≤ zoom) :
    1 ≤ coverRadius r zoom ∧ coverRadius r zoom ≤ 4194304 := by
  obtain ⟨hlo, hhi⟩ := coverRadius_spec (r := r) hzoom
  constructor
  · by_contra hlt
    have hneg : coverRadius r zoom * zoom ≤ 0 := mul_nonpos_of_nonpos_of_nonneg (by omega) (by omega)
    omega
  · by_contra hgt
    have hge : (coverRadius r zoom - 1) * 1 ≤ (coverRadius r zoom - 1) * zoom :=
      mul_le_mul_of_nonneg_left hzoom (by omega)
    omega

/-- Coordinates whose rounded screen positions differ by at most `r` differ by less than the cover. -/
theorem sub_lt_cover {a b zoom r ra : Int} (hzoom : 1 ≤ zoom) (hra : (r + 1) * 65536 ≤ ra * zoom)
    (h : (a * zoom + 32768) / 65536 - (b * zoom + 32768) / 65536 ≤ r) : a - b < ra := by
  have hscaled : a * zoom - b * zoom < ra * zoom := by omega
  rw [← Int.sub_mul] at hscaled
  exact lt_of_mul_lt_mul_right hscaled (by omega)

theorem dist2_nonneg (a b : Int × Int) : 0 ≤ dist2 a b :=
  add_nonneg (mul_self_nonneg _) (mul_self_nonneg _)

/-- Positions at most `r` apart are at most `r` apart on each axis. -/
theorem dist2_le_axes {a b : Int × Int} {r : Int} (hr : 0 ≤ r) (h : dist2 a b ≤ r * r) :
    |b.1 - a.1| ≤ r ∧ |b.2 - a.2| ≤ r := by
  have hx : (b.1 - a.1) * (b.1 - a.1) ≤ r * r := le_trans (le_add_of_nonneg_right (mul_self_nonneg _)) h
  have hy : (b.2 - a.2) * (b.2 - a.2) ≤ r * r := le_trans (le_add_of_nonneg_left (mul_self_nonneg _)) h
  exact ⟨abs_le_of_sq_le_sq (by rw [sq, sq]; exact hx) hr, abs_le_of_sq_le_sq (by rw [sq, sq]; exact hy) hr⟩

theorem project_eq_some_iff (v : View) (p : Point) (a : Int × Int) :
    project v p = some a ↔ pointValid p = true ∧ a = (screenX v p.x.value, screenY v p.y.value) := by
  unfold project
  split
  next h => exact ⟨fun heq => ⟨h, (Option.some.inj heq).symm⟩, fun ⟨_, heq⟩ => congrArg some heq.symm⟩
  next h => exact ⟨nofun, fun ⟨hv, _⟩ => absurd hv h⟩

/-- A point whose screen position is inside the aperture lies within the cover on both axes (R41). -/
theorem within_cover {r : Int} {v : View} (hr : 0 ≤ r) (hzoom : 1 ≤ v.zoom) {px py qx qy : Int}
    (h : dist2 (screenX v px, screenY v py) (screenX v qx, screenY v qy) ≤ r * r) :
    |qx - px| ≤ coverRadius r v.zoom ∧ |qy - py| ≤ coverRadius r v.zoom := by
  have ⟨hcover, _⟩ := coverRadius_spec (r := r) hzoom
  obtain ⟨hx, hy⟩ := dist2_le_axes hr h
  obtain ⟨hxlo, hxhi⟩ := abs_le.mp hx
  obtain ⟨hylo, hyhi⟩ := abs_le.mp hy
  have hx1 := sub_lt_cover hzoom hcover (a := qx - v.originX) (b := px - v.originX) hxhi
  have hx2 := sub_lt_cover hzoom hcover (a := px - v.originX) (b := qx - v.originX) (show screenX v px - screenX v qx ≤ r by
    simp only [] at hxlo; omega)
  have hy1 := sub_lt_cover hzoom hcover (a := v.originY - qy) (b := v.originY - py) hyhi
  have hy2 := sub_lt_cover hzoom hcover (a := v.originY - py) (b := v.originY - qy) (show screenY v py - screenY v qy ≤ r by
    simp only [] at hylo; omega)
  exact ⟨abs_le.mpr (by omega), abs_le.mpr (by omega)⟩

/-- Settles O44. -/
theorem coverHoldsTheAperture : Obligations.CoverHoldsTheAperture := by
  intro r v h0 h63 hzoom _ ra
  obtain ⟨hge, hlt⟩ := coverRadius_spec (r := r) hzoom
  obtain ⟨hlo, hhi⟩ := coverRadius_range h0 h63 hzoom
  refine ⟨hge, hlt, hlo, hhi, fun p q a b ha hb hdist => ?_⟩
  obtain ⟨-, rfl⟩ := (project_eq_some_iff v p a).mp ha
  obtain ⟨-, rfl⟩ := (project_eq_some_iff v q b).mp hb
  obtain ⟨hx, hy⟩ := within_cover h0 hzoom hdist
  obtain ⟨hx1, hx2⟩ := abs_le.mp hx
  obtain ⟨hy1, hy2⟩ := abs_le.mp hy
  have hra : ra = coverRadius r v.zoom := rfl
  omega

/-! ## Publications (R113) -/

/-- A publication replaces the published result by that of the search. -/
theorem publish_published {s : State} {f : Flight} (h : s.sse.flight = some f) :
    (publish s).sse.published = searchResult s.tbs f := by
  have hrerun : ∀ (b : Bool) (u : State), (rerunOrIdle b u).sse.published = u.sse.published := by
    intro b u
    cases b <;> rfl
  rw [publish_flight h, hrerun]
  cases trackOn s.pds.settings with
  | false => rfl
  | true => simp only [trackIf, offerTrack_eq]; rfl

theorem exec_searchPublish {s : State} (hrun : Running s) : exec .searchPublish s = .next (publish s) :=
  whileRunning_running hrun publish

/-- The result of a step that publishes. -/
theorem published_of_exec {s t : State} {f : Flight} (hrun : Running s) (h : s.sse.flight = some f)
    (hstep : exec .searchPublish s = .next t) : t.sse.published = searchResult s.tbs f := by
  rw [exec_searchPublish hrun] at hstep
  cases hstep
  exact publish_published h

/-! ## The result by its phases (R102, R103) -/

/-- The record of a result (R112). -/
def resultRecord (n : Snapshot) (p : Point) (src : Source) (o : Option ObjectPart) (truncated : Bool) : ResultRecord :=
  ⟨n.sample.sequence, n.sample.point, p, src, o, truncated, n.sample.proximity⟩

section
variable {t : Tbs} {f : Flight}

theorem rawYields_iff (n : Snapshot) :
    rawYields n = true ↔ n.sample.proximity = false ∨ pointValid n.sample.point = false := by
  rw [rawYields, Bool.or_eq_true, Bool.not_eq_true', Bool.not_eq_true']

theorem rawYields_eq_false_iff (n : Snapshot) :
    rawYields n = false ↔ n.sample.proximity = true ∧ pointValid n.sample.point = true := by
  rw [rawYields, Bool.or_eq_false_iff, Bool.not_eq_false', Bool.not_eq_false']

theorem searchResult_rawYields (h : rawYields f.snapshot = true) :
    searchResult t f = resultRecord f.snapshot f.snapshot.sample.point .raw none false := if_pos h

theorem searchResult_object (h : rawYields f.snapshot = false) {b : BankId} {c : Candidate} {truncated : Bool}
    (ho : objectPhase t f.snapshot f.progress = (some (b, c), truncated)) :
    searchResult t f = resultRecord f.snapshot (entryPoint c.entry) .object (some (objectPart b c)) truncated := by
  unfold searchResult
  simp only [h, ho]
  rfl

theorem searchResult_constrained (h : rawYields f.snapshot = false) {truncated : Bool} {p : Point}
    (ho : objectPhase t f.snapshot f.progress = (none, truncated)) (hc : constraintPhase f.snapshot = some p) :
    searchResult t f = resultRecord f.snapshot p .constrained none truncated := by
  unfold searchResult
  simp only [h, ho, hc]
  rfl

theorem searchResult_grid (h : rawYields f.snapshot = false) {truncated : Bool}
    (ho : objectPhase t f.snapshot f.progress = (none, truncated)) (hc : constraintPhase f.snapshot = none)
    (hgrid : f.snapshot.gridEnable ≠ 0) :
    searchResult t f = resultRecord f.snapshot (gridPoint f.snapshot.gridOriginX f.snapshot.gridOriginY
      f.snapshot.gridPitchX f.snapshot.gridPitchY f.snapshot.sample.point) .grid none truncated := by
  unfold searchResult
  simp only [h, ho, hc]
  exact if_pos hgrid

theorem searchResult_raw (h : rawYields f.snapshot = false) {truncated : Bool}
    (ho : objectPhase t f.snapshot f.progress = (none, truncated)) (hc : constraintPhase f.snapshot = none)
    (hgrid : f.snapshot.gridEnable = 0) :
    searchResult t f = resultRecord f.snapshot f.snapshot.sample.point .raw none truncated := by
  unfold searchResult
  simp only [h, ho, hc]
  exact if_neg (not_not_intro hgrid)

/-- A result is the object's, or none of an object: in each case with the object phase's TRUNCATED. -/
theorem searchResult_cases (h : rawYields f.snapshot = false) :
    (searchResult t f).truncated = (objectPhase t f.snapshot f.progress).2 ∧
    ((∃ b c, (objectPhase t f.snapshot f.progress).1 = some (b, c) ∧ (searchResult t f).source = .object ∧
        (searchResult t f).object = some (objectPart b c) ∧ (searchResult t f).point = entryPoint c.entry) ∨
      (objectPhase t f.snapshot f.progress).1 = none ∧ (searchResult t f).source ≠ .object ∧
        (searchResult t f).object = none) := by
  obtain ⟨found, truncated, ho⟩ : ∃ x y, objectPhase t f.snapshot f.progress = (x, y) := ⟨_, _, rfl⟩
  rw [ho]
  match found with
  | some (b, c) =>
    rw [searchResult_object h ho]
    exact ⟨rfl, .inl ⟨b, c, rfl, rfl, rfl, rfl⟩⟩
  | none =>
    cases hc : constraintPhase f.snapshot with
    | some p =>
      rw [searchResult_constrained h ho hc]
      exact ⟨rfl, .inr ⟨rfl, nofun, rfl⟩⟩
    | none =>
      by_cases hgrid : f.snapshot.gridEnable = 0
      · rw [searchResult_raw h ho hc hgrid]
        exact ⟨rfl, .inr ⟨rfl, nofun, rfl⟩⟩
      · rw [searchResult_grid h ho hc hgrid]
        exact ⟨rfl, .inr ⟨rfl, nofun, rfl⟩⟩

end

/-! ## The object phase (R104 to R106) -/

section
variable {t : Tbs} {n : Snapshot} {p : Progress} {b : BankId}

/-- The object phase of a search that runs it from the first entry. -/
theorem objectPhase_runs (hraw : rawYields n = false) (haperture : 0 < n.aperture) (hbank : n.bank = some b)
    (hcount : p.count = 0) : objectPhase t n p =
      (let out := readEntries (bankOf t b) n (screenX n.view n.sample.point.x.value, screenY n.view n.sample.point.y.value)
        (rectEntries (bankOf t b) (objectRect (bankOf t b) n)) 0 p.best
      (out.1.map fun c => (b, c), out.2)) := by
  obtain ⟨-, hvalid⟩ := (rawYields_eq_false_iff n).mp hraw
  have hobject : objectBank t n = some (b, bankOf t b) := by
    rw [objectBank, hraw, hbank, if_neg (by simpa using haperture)]
    rfl
  rw [objectPhase, hobject, (project_eq_some_iff ..).mpr ⟨hvalid, rfl⟩, hcount]
  rfl

/-- Where it does not run it finds nothing. -/
theorem objectPhase_idle (h : rawYields n = true ∨ n.aperture ≤ 0 ∨ n.bank = none) : objectPhase t n p = (none, false) := by
  have hobject : objectBank t n = none := by
    unfold objectBank
    split
    next => rfl
    next hno =>
      rw [Bool.or_eq_true, decide_eq_true_eq, not_or] at hno
      rcases h with h | h | h
      · exact absurd h hno.1
      · exact absurd h hno.2
      · rw [h]; rfl
  rw [objectPhase, hobject]

end

/-- Reading is cut short exactly when there are more entries than the budget leaves (R106). -/
theorem readEntries_truncated (b : Bank) (n : Snapshot) (pointer : Int × Int) (l : List Nat) {count : Nat}
    (hcount : (count : Int) ≤ n.budget) (best : Option Candidate) :
    (readEntries b n pointer l count best).2 = true ↔ n.budget < (count + l.length : Nat) := by
  induction l generalizing count best with
  | nil =>
    rw [readEntries, List.length_nil, Nat.add_zero]
    exact ⟨nofun, fun h => absurd h (not_lt.mpr hcount)⟩
  | cons i rest ih =>
    rw [readEntries, List.length_cons]
    by_cases hroom : (count : Int) < n.budget
    · rw [if_pos hroom, ih (by omega)]
      omega
    · rw [if_neg hroom]
      exact ⟨fun _ => by omega, fun _ => rfl⟩

/-- Settles O43. -/
theorem truncatedMeansTheBudgetRanOut : Obligations.TruncatedMeansTheBudgetRanOut := by
  intro s t f hrun hflight hcount hbudget hstep n runs
  have hbudget : (0 : Int) ≤ n.budget := Int.le_trans (by decide) hbudget
  rw [published_of_exec hrun hflight hstep]
  constructor
  · rintro b ⟨hprox, hvalid, haperture⟩ hbank
    have hraw := (rawYields_eq_false_iff n).mpr ⟨hprox, hvalid⟩
    rw [(searchResult_cases hraw).1, objectPhase_runs hraw haperture hbank hcount]
    refine (readEntries_truncated _ _ _ _ (count := 0) hbudget _).trans ?_
    rw [Nat.zero_add]
  · intro hidle
    cases hraw : rawYields n with
    | true => rw [searchResult_rawYields hraw]; rfl
    | false =>
      rw [(searchResult_cases hraw).1, objectPhase_idle (.inr ?_)]
      rcases hidle with hno | hnone
      · obtain ⟨hprox, hvalid⟩ := (rawYields_eq_false_iff n).mp hraw
        exact .inl (not_lt.mp fun h => hno ⟨hprox, hvalid, h⟩)
      · exact .inr hnone

end Sys2Proof.Machine

/-! Candidates of the object phase (R107, R108): what a candidate is, that the best one read is kept, and that the
rectangle holds every entry inside the aperture. -/

namespace Sys2Proof.Machine

/-! ## Candidates (R107) -/

/-- An entry passes the tests of R107 under a snapshot, at this distance of the pointer. -/
def Passes (n : Snapshot) (pointer : Int × Int) (e : SnapEntry) (kind : SnapKind) (q : Int × Int) : Prop :=
  snapKindOf (entryKindCode e) = some kind ∧ project n.view (entryPoint e) = some q ∧
  maskHas n.kindEnable (entryKindCode e) = true ∧ maskHas n.layerMask (entryLayer e) = true ∧
  e.handle ∉ n.exclusions ∧ dist2 pointer q ≤ n.aperture * n.aperture

theorem tests_iff {n : Snapshot} {pointer q : Int × Int} {e : SnapEntry} :
    (maskHas n.kindEnable (entryKindCode e) && maskHas n.layerMask (entryLayer e) && !n.exclusions.contains e.handle &&
      decide (dist2 pointer q ≤ n.aperture * n.aperture)) = true ↔
    maskHas n.kindEnable (entryKindCode e) = true ∧ maskHas n.layerMask (entryLayer e) = true ∧
      e.handle ∉ n.exclusions ∧ dist2 pointer q ≤ n.aperture * n.aperture := by
  rw [Bool.and_eq_true, Bool.and_eq_true, Bool.and_eq_true, Bool.not_eq_true', ← Bool.not_eq_true, List.contains_iff_mem,
    decide_eq_true_eq, and_assoc, and_assoc]

theorem candidateOf_of_passes {n : Snapshot} {pointer q : Int × Int} {e : SnapEntry} {kind : SnapKind}
    (h : Passes n pointer e kind q) (i : Nat) :
    candidateOf n pointer i e = some ⟨(dist2 pointer q).toNat, kind, i, e⟩ := by
  obtain ⟨hkind, hpos, htests⟩ := h
  rw [candidateOf, hkind, hpos]
  exact if_pos (tests_iff.mpr htests)

theorem passes_of_candidateOf {n : Snapshot} {pointer : Int × Int} {e : SnapEntry} {i : Nat} {c : Candidate}
    (h : candidateOf n pointer i e = some c) :
    ∃ kind q, Passes n pointer e kind q ∧ c = ⟨(dist2 pointer q).toNat, kind, i, e⟩ := by
  unfold candidateOf at h
  split at h
  next kind q hkind hpos =>
    split at h
    next htests =>
      exact ⟨kind, q, ⟨hkind, hpos, tests_iff.mp htests⟩, (Option.some.inj h).symm⟩
    next => cases h
  next => cases h

/-- A candidate read from a bank. -/
def IsCandidate (b : Bank) (n : Snapshot) (pointer : Int × Int) (c : Candidate) : Prop :=
  ∃ e, b.entries[c.index]? = some e ∧ candidateOf n pointer c.index e = some c

theorem isCandidate_of_read {b : Bank} {n : Snapshot} {pointer : Int × Int} {i : Nat} {c : Candidate}
    (h : ((b.entries[i]?).bind fun e => candidateOf n pointer i e) = some c) : IsCandidate b n pointer c := by
  obtain ⟨e, he, hc⟩ := Option.bind_eq_some_iff.mp h
  obtain ⟨kind, q, -, rfl⟩ := passes_of_candidateOf hc
  exact ⟨e, he, hc⟩

/-! ## The better one (R108) -/

theorem snapKindCode_injective {k l : SnapKind} (h : snapKindCode k = snapKindCode l) : k = l := by
  have hinverse : ∀ k, snapKindOf (snapKindCode k) = some k := fun k => by cases k <;> rfl
  exact Option.some.inj ((hinverse k).symm.trans (h ▸ hinverse l))

theorem betterThan_iff (a b : Candidate) : betterThan a b = true ↔ a.dist2 < b.dist2 ∨ a.dist2 = b.dist2 ∧
    (snapKindCode a.kind < snapKindCode b.kind ∨ snapKindCode a.kind = snapKindCode b.kind ∧ a.index < b.index) := by
  have hkind : a.kind = b.kind ↔ snapKindCode a.kind = snapKindCode b.kind := ⟨congrArg _, snapKindCode_injective⟩
  rw [betterThan, Bool.or_eq_true, Bool.and_eq_true, Bool.or_eq_true, Bool.and_eq_true, decide_eq_true_eq, beq_iff_eq,
    decide_eq_true_eq, beq_iff_eq, decide_eq_true_eq, hkind]

/-- The better one of two is beaten by nothing that either does not lose to. -/
theorem not_betterThan_trans {a b c : Candidate} (hab : betterThan a b = true) (hcb : betterThan c b = false) :
    betterThan c a = false := by
  rw [betterThan_iff] at hab
  rw [← Bool.not_eq_true, betterThan_iff] at hcb ⊢
  omega

theorem not_betterThan_self (a : Candidate) : betterThan a a = false := by
  rw [← Bool.not_eq_true, betterThan_iff]
  omega

/-- A best candidate that this one does not beat. -/
def NotBeatenBy (c : Candidate) (best : Option Candidate) : Prop := ∃ d ∈ best, betterThan c d = false

theorem keepBetter_new (best : Option Candidate) (c : Candidate) : NotBeatenBy c (keepBetter best (some c)) := by
  cases best with
  | none => exact ⟨c, rfl, not_betterThan_self c⟩
  | some d =>
    cases h : betterThan c d with
    | true => exact ⟨c, by simp [keepBetter, h], not_betterThan_self c⟩
    | false => exact ⟨d, by simp [keepBetter, h], h⟩

theorem keepBetter_old {best : Option Candidate} {c : Candidate} (h : NotBeatenBy c best) (new : Option Candidate) :
    NotBeatenBy c (keepBetter best new) := by
  obtain ⟨d, rfl, hd⟩ := h
  cases new with
  | none => exact ⟨d, rfl, hd⟩
  | some x =>
    cases hx : betterThan x d with
    | true => exact ⟨x, by simp [keepBetter, hx], not_betterThan_trans hx hd⟩
    | false => exact ⟨d, by simp [keepBetter, hx], hd⟩

/-- The best candidate after one more is the one before or the new one. -/
theorem keepBetter_mem {best new : Option Candidate} {d : Candidate} (h : d ∈ keepBetter best new) : d ∈ best ∨ d ∈ new := by
  cases best with
  | none => exact .inr (by simpa [keepBetter] using h)
  | some x =>
    cases new with
    | none => exact .inl h
    | some y =>
      unfold keepBetter at h
      dsimp only at h
      split at h
      · exact .inr h
      · exact .inl h

/-! ## Reading (R105, R106) -/

section
variable {b : Bank} {n : Snapshot} {pointer : Int × Int}

/-- What reading finds are candidates of the bank. -/
theorem readEntries_sound {l : List Nat} {count : Nat} {best : Option Candidate}
    (hbest : ∀ d ∈ best, IsCandidate b n pointer d) :
    ∀ d ∈ (readEntries b n pointer l count best).1, IsCandidate b n pointer d := by
  induction l generalizing count best with
  | nil => exact hbest
  | cons i rest ih =>
    rw [readEntries]
    split
    · refine ih fun d hd => ?_
      rcases keepBetter_mem hd with hd | hd
      · exact hbest d hd
      · exact isCandidate_of_read hd
    · exact hbest

/-- Reading keeps a best candidate that `c` does not beat. -/
theorem readEntries_keeps {c : Candidate} (l : List Nat) {count : Nat} {best : Option Candidate}
    (h : NotBeatenBy c best) : NotBeatenBy c (readEntries b n pointer l count best).1 := by
  induction l generalizing count best with
  | nil => exact h
  | cons i rest ih =>
    rw [readEntries]
    split
    · exact ih (keepBetter_old h _)
    · exact h

/-- Reading that is not cut short finds a candidate that none of those read beats. -/
theorem readEntries_complete {l : List Nat} {count : Nat} {best : Option Candidate}
    (huncut : (readEntries b n pointer l count best).2 = false) {i : Nat} (hi : i ∈ l) {c : Candidate}
    (hc : ((b.entries[i]?).bind fun e => candidateOf n pointer i e) = some c) :
    NotBeatenBy c (readEntries b n pointer l count best).1 := by
  induction l generalizing count best with
  | nil => exact absurd hi List.not_mem_nil
  | cons j rest ih =>
    rw [readEntries] at huncut ⊢
    split at huncut
    next hroom =>
      rw [if_pos hroom]
      rcases List.mem_cons.mp hi with rfl | hi
      · rw [hc]
        exact readEntries_keeps rest (keepBetter_new best c)
      · exact ih huncut hi
    next => cases huncut

end

/-- Settles O41. -/
theorem objectResultsNameACandidate : Obligations.ObjectResultsNameACandidate := by
  intro s t f hrun hflight hcount hbest hstep hsource n
  rw [published_of_exec hrun hflight hstep] at hsource ⊢
  cases hraw : rawYields n with
  | true =>
    rw [searchResult_rawYields hraw] at hsource
    cases hsource
  | false =>
    obtain ⟨-, ⟨b, c, hfound, -, hobject, hpoint⟩ | ⟨-, hno, -⟩⟩ := searchResult_cases (t := s.tbs) hraw
    case inr => exact absurd hsource hno
    obtain ⟨hprox, hvalid⟩ := (rawYields_eq_false_iff n).mp hraw
    obtain ⟨haperture, hbank⟩ : 0 < n.aperture ∧ ∃ a, n.bank = some a := by
      by_contra hidle
      rw [objectPhase_idle (.inr ?_)] at hfound
      · cases hfound
      · by_cases hle : n.aperture ≤ 0
        · exact .inl hle
        · exact .inr (Option.eq_none_iff_forall_ne_some.mpr fun a ha => hidle ⟨not_le.mp hle, a, ha⟩)
    obtain ⟨a, ha⟩ := hbank
    rw [objectPhase_runs hraw haperture ha hcount, hbest] at hfound
    obtain ⟨d, hd, heq⟩ := Option.map_eq_some_iff.mp hfound
    obtain ⟨rfl, rfl⟩ := Prod.mk.inj heq
    obtain ⟨e, he, hcand⟩ := readEntries_sound (best := none) (fun d hd => absurd hd (Option.not_mem_none d)) d hd
    obtain ⟨kind, q, ⟨hkind, hpos, hkinds, hlayers, hfree, hinside⟩, hd⟩ := passes_of_candidateOf hcand
    have hentry : d.entry = e := congrArg Candidate.entry hd
    have hdist : d.dist2 = (dist2 (screenX n.view n.sample.point.x.value, screenY n.view n.sample.point.y.value) q).toNat :=
      congrArg Candidate.dist2 hd
    have hcast : (d.dist2 : Int) = dist2 (screenX n.view n.sample.point.x.value, screenY n.view n.sample.point.y.value) q := by
      rw [hdist, Int.toNat_of_nonneg (dist2_nonneg ..)]
    refine ⟨hprox, hvalid, a, objectPart a d, e, _, q, ha, hobject, he, ?_, ?_, ?_, rfl, hkinds, hlayers, hfree, ?_,
      (project_eq_some_iff ..).mpr ⟨hvalid, rfl⟩, hpos, hcast, hcast.trans_le hinside⟩
    · exact hkind.trans (congrArg some (congrArg Candidate.kind hd).symm)
    · exact congrArg entryLayer hentry
    · exact congrArg SnapEntry.handle hentry
    · rw [hpoint, hentry]

/-! ## The rectangle (R42, R43, R104) -/

theorem mem_fromTo {lo hi i : Nat} (h1 : lo ≤ i) (h2 : i ≤ hi) : i ∈ fromTo lo hi :=
  List.mem_map.mpr ⟨i - lo, List.mem_range.mpr (by omega), by omega⟩

theorem mem_rectCells {r : CellRect} {cx cy : Nat} (hx : r.cxLo ≤ cx ∧ cx ≤ r.cxHi) (hy : r.cyLo ≤ cy ∧ cy ≤ r.cyHi) :
    cy * 64 + cx ∈ rectCells r :=
  List.mem_flatMap.mpr ⟨cy, mem_fromTo hy.1 hy.2, List.mem_map.mpr ⟨cx, mem_fromTo hx.1 hx.2, rfl⟩⟩

theorem cellOnAxis_mono (shift : Nat) (origin : Int) {v w : Int} (h : v ≤ w) :
    cellOnAxis shift origin v ≤ cellOnAxis shift origin w := by
  have hpos : (0 : Int) < (2 ^ shift : Nat) := Int.natCast_pos.mpr (Nat.two_pow_pos shift)
  exact Int.toNat_le_toNat (clampInt_mono (by decide) (Int.ediv_le_ediv hpos (Int.sub_le_sub_right h origin)))

/-- A point within the cover of the pointer on both axes has its cell in the rectangle. -/
theorem cellNumber_mem_rectCells {b : Bank} {p : Point} {x y ra : Int} (hx : |x - p.x.value| ≤ ra)
    (hy : |y - p.y.value| ≤ ra) :
    cellNumber b.shift b.originX b.originY x y ∈ rectCells (cellRect b p ra) := by
  obtain ⟨hx1, hx2⟩ := abs_le.mp hx
  obtain ⟨hy1, hy2⟩ := abs_le.mp hy
  exact mem_rectCells ⟨cellOnAxis_mono _ _ (by omega), cellOnAxis_mono _ _ (by omega)⟩
    ⟨cellOnAxis_mono _ _ (by omega), cellOnAxis_mono _ _ (by omega)⟩

theorem cellEntries_congr {a b : Bank} (hdirectory : a.directory = b.directory) (hindex : a.cellIndex = b.cellIndex)
    (c : Nat) : cellEntries a c = cellEntries b c := by
  rw [cellEntries, cellEntries, dirCell, dirCell, hdirectory, hindex]

/-- An entry of a built bank that is not void is read in its cell. -/
theorem mem_cellEntries_builtBank {b : Bank} {i c : Nat} {e : SnapEntry} (he : b.entries[i]? = some e)
    (hcell : entryCell b e = some c) : i ∈ cellEntries (builtBank b) c := by
  obtain ⟨hlt, -⟩ := List.getElem?_eq_some_iff.mp he
  rw [cellEntries_builtBank b (entryCell_lt hcell), filedIn_entryCells, List.mem_filter]
  exact ⟨List.mem_range.mpr hlt, by rw [he]; exact decide_eq_true hcell⟩

/-! ## Completeness (R107, R108) -/

theorem snapKindOf_code {k : Nat} (h : k ≤ 6) : ∃ kind, snapKindOf k = some kind ∧ snapKindCode kind = k := by
  interval_cases k <;> exact ⟨_, rfl, rfl⟩

theorem entryLayer_eq_mod (e : SnapEntry) : entryLayer e = e.attr.toNat % 64 := by
  rw [entryLayer, BitVec.extractLsb'_toNat]
  rfl

/-- Settles O42: the entry is in the rectangle by the cover, and of what the search reads nothing beats its result. -/
theorem untruncatedSearchFindsTheBest : Obligations.UntruncatedSearchFindsTheBest := by
  intro s t f b loaded i e hrun hflight hcount hbest n kind layer sx sy d2 hprox hvalid hbank haperture h63 hzoom _ hbuilt
    he hkind hkinds hlayers hfree hex hey hinside hstep huncut
  rw [published_of_exec hrun hflight hstep] at huncut ⊢
  have hraw : rawYields n = false := (rawYields_eq_false_iff n).mpr ⟨hprox, hvalid⟩
  have hphase := objectPhase_runs (t := s.tbs) hraw (by omega) hbank hcount
  obtain ⟨htruncated, hresult⟩ := searchResult_cases (t := s.tbs) hraw
  rw [hphase] at htruncated hresult
  rw [htruncated] at huncut
  have hpoint : pointValid (entryPoint e) = true := (pointValid_entryPoint_iff e).mpr ⟨hex, hey⟩
  have hposition : project n.view (entryPoint e) = some (sx e.x.toInt, sy e.y.toInt) :=
    (project_eq_some_iff ..).mpr ⟨hpoint, by
      rw [show (entryPoint e).x.value = e.x.toInt from storedCoord_value e.x,
        show (entryPoint e).y.value = e.y.toInt from storedCoord_value e.y]; rfl⟩
  have hdist : dist2 (sx n.sample.point.x.value, sy n.sample.point.y.value) (sx e.x.toInt, sy e.y.toInt) = d2 := by
    rw [dist2, ← sq, ← sq]
  obtain ⟨k, hk, hcode⟩ := snapKindOf_code hkind
  have hkindCode : entryKindCode e = kind := entryKindCode_eq_div e
  have hpasses : Passes n (sx n.sample.point.x.value, sy n.sample.point.y.value) e k (sx e.x.toInt, sy e.y.toInt) :=
    ⟨hkindCode ▸ hk, hposition, hkindCode ▸ hkinds, (entryLayer_eq_mod e).symm ▸ hlayers, hfree,
      by rw [hdist, ← sq]; exact hinside⟩
  have hentries : (bankOf s.tbs b).entries[i]? = some e := by rw [hbuilt]; exact he
  have hcand : (((bankOf s.tbs b).entries[i]?).bind fun e =>
      candidateOf n (sx n.sample.point.x.value, sy n.sample.point.y.value) i e) = some ⟨d2.toNat, k, i, e⟩ := by
    rw [hentries, Option.bind_some, candidateOf_of_passes hpasses, hdist]
  have hread : i ∈ rectEntries (bankOf s.tbs b) (objectRect (bankOf s.tbs b) n) := by
    have hcell : entryCell loaded e = some (cellNumber loaded.shift loaded.originX loaded.originY e.x.toInt e.y.toInt) := by
      have hvoid : ¬entryVoid e = true := by
        rw [entryVoid_iff]
        rintro (h | h | h)
        · exact absurd (show kind = 7 from h) (by omega)
        · exact hex h
        · exact hey h
      rw [entryCell, if_neg hvoid, show (entryPoint e).x.value = e.x.toInt from storedCoord_value e.x,
        show (entryPoint e).y.value = e.y.toInt from storedCoord_value e.y]
    have hsquare : dist2 (sx n.sample.point.x.value, sy n.sample.point.y.value) (sx e.x.toInt, sy e.y.toInt) ≤
        n.aperture * n.aperture := by
      rw [hdist, ← sq]
      exact hinside
    obtain ⟨hx, hy⟩ := within_cover (by omega) hzoom hsquare
    have hrect : objectRect (bankOf s.tbs b) n =
        cellRect loaded n.sample.point (coverRadius n.aperture n.view.zoom) := by rw [hbuilt]; rfl
    have hdirectory : (bankOf s.tbs b).directory = (builtBank loaded).directory := by rw [hbuilt]
    have hindex : (bankOf s.tbs b).cellIndex = (builtBank loaded).cellIndex := by rw [hbuilt]
    rw [rectEntries, hrect]
    refine List.mem_flatMap.mpr ⟨_, cellNumber_mem_rectCells hx hy, ?_⟩
    rw [cellEntries_congr hdirectory hindex]
    exact mem_cellEntries_builtBank he hcell
  obtain ⟨d, hd, hnot⟩ := readEntries_complete huncut hread hcand
  rcases hresult with ⟨a, c, hfound, -, hobject, -⟩ | ⟨hnone, -, -⟩
  case inr => exact absurd (Option.map_eq_none_iff.mp hnone) (Option.ne_none_iff_exists'.mpr ⟨d, hd⟩)
  refine ⟨objectPart a c, hobject, ?_⟩
  obtain ⟨x, hx, heq⟩ := Option.map_eq_some_iff.mp hfound
  obtain ⟨-, rfl⟩ := Prod.mk.inj heq
  obtain rfl : d = x := Option.some.inj ((Option.mem_def.mp hd).symm.trans hx)
  rw [← Bool.not_eq_true, betterThan_iff, hcode] at hnot
  have hpos : 0 ≤ d2 := hdist ▸ dist2_nonneg ..
  dsimp only at hnot
  simp only [objectPart]
  omega

end Sys2Proof.Machine

/-! Search requests, publications and the phases behind the object phase (R44 to R49, R99, R100, R109 to R113). -/

namespace Sys2Proof.Machine

/-! ## Rounding (R44, R47 to R49) -/

theorem floor_div_of_nonneg (v : Int) {d : Int} (hd : 0 ≤ d) : Int.floor ((v : ℚ) / (d : ℚ)) = v / d := by
  lift d to ℕ using hd
  exact_mod_cast Rat.floor_intCast_div_natCast v d

theorem floor_div_16384 (v : Int) : Int.floor ((v : ℚ) / 16384) = v / 16384 := by
  exact_mod_cast floor_div_of_nonneg v (d := 16384) (by decide)

/-- The nearest multiple of a pitch or a step, half up. -/
theorem floor_nearest (v : Int) {step : Int} (h : 0 ≤ step) :
    Int.floor ((2 * (v : ℚ) + step) / (2 * step)) = (2 * v + step) / (2 * step) := by
  have hcast : (2 * (v : ℚ) + step) / (2 * step) = ((2 * v + step : Int) : ℚ) / ((2 * step : Int) : ℚ) := by push_cast; rfl
  rw [hcast, floor_div_of_nonneg _ (by omega)]

theorem gridValue_eq (origin v : Int) {pitch : Int} (h : 0 ≤ pitch) : gridValue origin pitch v =
    origin + pitch * Int.floor ((2 * ((v : ℚ) - origin) + pitch) / (2 * pitch)) := by
  have hcast : (v : ℚ) - origin = ((v - origin : Int) : ℚ) := by push_cast; rfl
  rw [hcast, floor_nearest _ h, gridValue]

theorem constraintLength_eq (d : Int) : constraintLength d = Int.floor (((d : ℚ) + 8192) / 16384) := by
  have hcast : (d : ℚ) + 8192 = ((d + 8192 : Int) : ℚ) := by push_cast; rfl
  rw [hcast, floor_div_16384, constraintLength]

theorem steppedLength_eq (step len : Int) : steppedLength step len =
    if 0 < step then step * Int.floor ((2 * (len : ℚ) + step) / (2 * step)) else len := by
  unfold steppedLength
  split
  next h => rw [floor_nearest _ h.le]
  next => rfl

theorem directionMove_eq (len u : Int) : directionMove len u = Int.floor (((len : ℚ) * u + 8192) / 16384) := by
  have hcast : (len : ℚ) * u + 8192 = ((len * u + 8192 : Int) : ℚ) := by push_cast; rfl
  rw [hcast, floor_div_16384, directionMove]

/-- One axis of a computed point of VALID operands (R33, R34). -/
theorem computedCoord_valid_eq (v : Int) : computedCoord .valid v =
    if v < -8388607 then ⟨-8388607, .offSheet⟩ else if 8388607 < v then ⟨8388607, .offSheet⟩ else ⟨v, .valid⟩ := by
  obtain ⟨hin, hhigh, hlow⟩ := computedCoord_valid v
  split
  next h => exact hlow h
  next h =>
    split
    next h' => exact hhigh h'
    next h' => exact hin (by omega) (by omega)

/-! ## The best direction (R46) -/

/-- An entry of a list with one more is one of the list, or the last. -/
theorem getElem?_concat_cases {α : Type} {l : List α} {x w : α} {j : Nat} (h : (l ++ [x])[j]? = some w) :
    l[j]? = some w ∨ j = l.length ∧ w = x := by
  by_cases hj : j < l.length
  · rw [List.getElem?_append_left hj] at h
    exact .inl h
  · rw [List.getElem?_append_right (by omega), List.getElem?_singleton] at h
    split at h
    next hz => exact .inr ⟨by omega, (Option.some.inj h).symm⟩
    next => cases h

/-- The direction of the greatest dot product, the lowest index of equal ones. -/
theorem bestDirection_spec (vx vy : Int) (first : Direction) (rest : List Direction) :
    ∃ k : Nat, (first :: rest)[k]? = some (bestDirection vx vy first rest) ∧
      ∀ (j : Nat) w, (first :: rest)[j]? = some w → dot vx vy w ≤ dot vx vy (bestDirection vx vy first rest) ∧
        (j < k → dot vx vy w < dot vx vy (bestDirection vx vy first rest)) := by
  induction rest using List.reverseRecOn with
  | nil =>
    refine ⟨0, rfl, fun j w hw => ?_⟩
    rw [List.getElem?_singleton] at hw
    split at hw
    next => cases hw; exact ⟨le_refl _, fun h => absurd h (Nat.not_lt_zero j)⟩
    next => cases hw
  | append_singleton rest x ih =>
    obtain ⟨k, hk, hbest⟩ := ih
    have hstep : bestDirection vx vy first (rest ++ [x]) =
        if dot vx vy (bestDirection vx vy first rest) < dot vx vy x then x else bestDirection vx vy first rest := by
      rw [bestDirection, List.foldl_append]
      rfl
    rw [hstep]
    split
    next hlt =>
      refine ⟨(first :: rest).length, List.getElem?_concat_length, fun j w hw => ?_⟩
      rcases getElem?_concat_cases (l := first :: rest) hw with hw | ⟨hj, rfl⟩
      · have hle := (hbest j w hw).1
        exact ⟨by omega, fun _ => by omega⟩
      · exact ⟨le_refl _, fun h => absurd hj (Nat.ne_of_lt h)⟩
    next hge =>
      have hklt : k < (first :: rest).length := (List.getElem?_eq_some_iff.mp hk).1
      refine ⟨k, (List.getElem?_append_left hklt).trans hk, fun j w hw => ?_⟩
      rcases getElem?_concat_cases (l := first :: rest) hw with hw | ⟨hj, rfl⟩
      · exact hbest j w hw
      · exact ⟨by omega, fun h => by omega⟩

/-! ## The constraint phase (R109, R110) -/

/-- The constraint applies to a snapshot. -/
def ConstraintApplies (n : Snapshot) : Prop :=
  n.gestureState = .tracking ∧ n.gestureKind ∈ [GestureKind.line, .chain, .move] ∧
    (n.constraint = 1 ∨ n.constraint = 2 ∧ n.directions ≠ [])

/-- The directions of ORTHO, or else the table's. -/
def constraintDirections (n : Snapshot) : List Direction := if n.constraint = 1 then orthoDirections else n.directions

section
variable {n : Snapshot}

theorem gestureKind_mem_iff (k : GestureKind) : k ∈ [GestureKind.line, .chain, .move] ↔ k = .line ∨ k = .chain ∨ k = .move := by
  simp only [List.mem_cons, List.not_mem_nil, or_false]

theorem directionSet_applies (h : ConstraintApplies n) :
    directionSet n = constraintDirections n ∧ constraintDirections n ≠ [] := by
  obtain ⟨-, -, hortho | ⟨htable, hne⟩⟩ := h
  · rw [directionSet, constraintDirections, if_pos hortho, if_pos hortho]
    exact ⟨rfl, List.cons_ne_nil _ _⟩
  · have hnot : ¬n.constraint = 1 := by omega
    rw [directionSet, constraintDirections, if_neg hnot, if_pos htable, if_neg hnot]
    exact ⟨rfl, hne⟩

theorem constraintPhase_applies (h : ConstraintApplies n) {a : Point} (ha : n.anchor = some a) :
    ∃ first rest, constraintDirections n = first :: rest ∧
      constraintPhase n = some (constrainedPoint n.sample.point a first rest n.lengthStep) := by
  obtain ⟨hset, hne⟩ := directionSet_applies h
  obtain ⟨first, rest, hdirections⟩ := List.exists_cons_of_ne_nil hne
  obtain ⟨htracking, hkind, -⟩ := h
  refine ⟨first, rest, hdirections, ?_⟩
  rw [constraintPhase, if_pos ⟨htracking, (gestureKind_mem_iff _).mp hkind⟩, hset, hdirections, ha]

theorem constraintPhase_idle (h : ¬ConstraintApplies n) : constraintPhase n = none := by
  unfold constraintPhase
  split
  next hlive =>
    obtain ⟨htracking, hkind⟩ := hlive
    have hempty : directionSet n = [] := by
      by_contra hne
      refine h ⟨htracking, (gestureKind_mem_iff _).mpr hkind, ?_⟩
      by_cases hortho : n.constraint = 1
      · exact .inl hortho
      · rw [directionSet, if_neg hortho] at hne
        by_cases htable : n.constraint = 2
        · rw [if_pos htable] at hne
          exact .inr ⟨htable, hne⟩
        · exact absurd (if_neg htable) hne
    rw [hempty]
  next => rfl

/-- A constrained point of a VALID pointer and anchor (R46 to R49). -/
theorem constrainedPoint_moved {p a : Point} (hp : pointValid p = true) (ha : pointValid a = true)
    (hmoved : ¬(p.x.value - a.x.value = 0 ∧ p.y.value - a.y.value = 0)) (first : Direction) (rest : List Direction)
    (step : Int) :
    let u := bestDirection (p.x.value - a.x.value) (p.y.value - a.y.value) first rest
    let len := steppedLength step (constraintLength (dot (p.x.value - a.x.value) (p.y.value - a.y.value) u))
    constrainedPoint p a first rest step = ⟨computedCoord .valid (a.x.value + directionMove len u.ux),
      computedCoord .valid (a.y.value + directionMove len u.uy)⟩ := by
  intro u len
  have hclass : worseClass (pointClass p) (pointClass a) = .valid :=
    (worseClass_eq_valid_iff _ _).mpr ⟨beq_iff_eq.mp hp, beq_iff_eq.mp ha⟩
  unfold constrainedPoint
  dsimp only
  rw [if_neg hmoved, hclass]

end

theorem pointValid_iff (p : Point) : pointValid p = true ↔ p.x.cls = .valid ∧ p.y.cls = .valid := by
  rw [pointValid, beq_iff_eq, pointClass, worseClass_eq_valid_iff]

/-! ## The publication (R84, R99, R113, R167) -/

/-- The state of a publication with its TRACK, before the rerun. -/
theorem trackIf_released (r : ResultRecord) (s : State) :
    trackIf (trackOn s.pds.settings) r (released r s) = { s with
      sse := ⟨none, false, r⟩, tbs := releasePin s.tbs
      rlt := { s.rlt with queue := if trackOn s.pds.settings = false then s.rlt.queue else trackQueue r s.rlt.queue } } := by
  cases trackOn s.pds.settings with
  | false => rfl
  | true =>
    simp only [trackIf, if_true, offerTrack_eq]
    rfl

/-- With no search in flight the rerun of a publication is what a request starts. -/
theorem rerunOrIdle_eq {u : State} (hflight : u.sse.flight = none) (hrerun : u.sse.rerun = false) (b : Bool) :
    rerunOrIdle b u = if b then searchRequest u else u := by
  cases b with
  | true => exact (searchRequest_idle hflight).symm
  | false =>
    obtain ⟨asserted, vpl, pds, ptu, tbs, ⟨flight, rerun, published⟩, gcu, ovc, rlt, pending⟩ := u
    obtain rfl : flight = none := hflight
    obtain rfl : rerun = false := hrerun
    rfl

/-- A start of a search has read nothing. -/
theorem firstProgress_fresh (t : Tbs) (n : Snapshot) : (firstProgress t n).count = 0 ∧ (firstProgress t n).best = none := by
  unfold firstProgress
  split <;> exact ⟨rfl, rfl⟩

/-- Settles O40: the requests, the publication by its steps, and the result by the phase that gives it. -/
theorem searchesStartAndPublish : Obligations.SearchesStartAndPublish := by
  refine ⟨fun s hidle => ?_, fun s f hflight => searchRequest_busy hflight, fun s f hrun hflight => ?_, fun t f => ?_⟩
  · obtain ⟨hcount, hbest⟩ := firstProgress_fresh s.tbs (takeSnapshot s)
    exact ⟨firstProgress s.tbs (takeSnapshot s), hcount, hbest, searchRequest_idle hidle⟩
  · intro r track queue met released published
    rw [exec_searchPublish hrun, publish_flight hflight, trackIf_released, rerunOrIdle_eq rfl rfl]
    rfl
  · intro n r p axis grid ortho directions applies
    cases hraw : rawYields n with
    | true =>
      have hr : r = resultRecord n p .raw none false := searchResult_rawYields hraw
      have hyields := (rawYields_iff n).mp hraw
      rw [hr]
      refine ⟨rfl, rfl, rfl, ⟨nofun, fun h => absurd rfl h⟩, fun _ => nofun, fun _ => ⟨rfl, rfl, rfl⟩,
        fun hprox hvalid => ?_⟩
      rcases hyields with h | h
      · exact absurd (h.symm.trans hprox) nofun
      · exact absurd (h.symm.trans hvalid) nofun
    | false =>
      obtain ⟨hprox, hvalid⟩ := (rawYields_eq_false_iff n).mp hraw
      obtain ⟨hxvalid, hyvalid⟩ := (pointValid_iff p).mp hvalid
      have hnotYields : ¬(n.sample.proximity = false ∨ pointValid p = false) := by
        rw [hprox, hvalid]
        nofun
      have hidle : n.aperture ≤ 0 ∨ n.bank = none → r.source ≠ .object := by
        intro h hsource
        have hnone := objectPhase_idle (t := t) (p := f.progress) (.inr h)
        obtain ⟨-, ⟨b, c, hfound, -⟩ | ⟨-, hno, -⟩⟩ := searchResult_cases (t := t) hraw
        · rw [hnone] at hfound
          cases hfound
        · exact hno hsource
      obtain ⟨found, truncated, ho⟩ : ∃ x y, objectPhase t n f.progress = (x, y) := ⟨_, _, rfl⟩
      match found with
      | some (b, c) =>
        have hr : r = resultRecord n (entryPoint c.entry) .object (some (objectPart b c)) truncated :=
          searchResult_object hraw ho
        refine ⟨by rw [hr]; rfl, by rw [hr]; rfl, by rw [hr]; rfl, ?_, hidle, fun h => absurd h hnotYields,
          fun _ _ h => absurd (by rw [hr]; rfl) h⟩
        rw [hr]
        exact ⟨fun _ => nofun, fun _ => rfl⟩
      | none =>
        have hconstrained : ∀ q, constraintPhase n = some q → r = resultRecord n q .constrained none truncated :=
          fun q hq => searchResult_constrained hraw ho hq
        have hfree : r.sequence = n.sample.sequence ∧ r.raw = p ∧ r.proximity = n.sample.proximity ∧ r.source ≠ .object ∧
            r.object = none := by
          cases hc : constraintPhase n with
          | some q => rw [hconstrained q hc]; exact ⟨rfl, rfl, rfl, nofun, rfl⟩
          | none =>
            by_cases hgrid : n.gridEnable = 0
            · rw [show r = _ from searchResult_raw hraw ho hc hgrid]; exact ⟨rfl, rfl, rfl, nofun, rfl⟩
            · rw [show r = _ from searchResult_grid hraw ho hc hgrid]; exact ⟨rfl, rfl, rfl, nofun, rfl⟩
        obtain ⟨hsequence, hrawPoint, hproximity, hsource, hobject⟩ := hfree
        refine ⟨hsequence, hrawPoint, hproximity, ⟨fun h => absurd h hsource, fun h => absurd hobject h⟩, hidle,
          fun h => absurd h hnotYields, fun _ _ _ => ⟨fun a happlies ha havalid => ?_, fun hno hgrid hpx hpy => ?_,
            fun hno hgrid => ?_⟩⟩
        · intro vx vy dotOf
          obtain ⟨first, rest, hdirections, hphase⟩ := constraintPhase_applies (n := n) happlies ha
          rw [hconstrained _ hphase]
          refine ⟨rfl, fun hstill => if_pos hstill, fun hmoved => ?_⟩
          obtain ⟨k, hk, hbest⟩ := bestDirection_spec vx vy first rest
          have hlist : directions = first :: rest := hdirections
          refine ⟨k, bestDirection vx vy first rest, hlist ▸ hk, fun j w hw => hbest j w (hlist ▸ hw), ?_⟩
          intro length stepped
          have hlength : constraintLength (dot vx vy (bestDirection vx vy first rest)) = length := constraintLength_eq _
          have hstepped : steppedLength n.lengthStep length = stepped := steppedLength_eq ..
          refine (constrainedPoint_moved hvalid havalid hmoved first rest n.lengthStep).trans ?_
          rw [hlength, hstepped, directionMove_eq, directionMove_eq, computedCoord_valid_eq, computedCoord_valid_eq]
        · have hphase := constraintPhase_idle (n := n) hno
          rw [show r = _ from searchResult_grid hraw ho hphase hgrid]
          refine ⟨rfl, ?_⟩
          show gridPoint n.gridOriginX n.gridOriginY n.gridPitchX n.gridPitchY p = _
          rw [gridPoint, hxvalid, hyvalid, gridValue_eq _ _ (by omega), gridValue_eq _ _ (by omega), computedCoord_valid_eq,
            computedCoord_valid_eq]
        · have hphase := constraintPhase_idle (n := n) hno
          rw [show r = _ from searchResult_raw hraw ho hphase hgrid]
          exact ⟨rfl, rfl⟩

end Sys2Proof.Machine

/-! GESTURE, commits and presses (R121 to R128, R131). -/

namespace Sys2Proof.Machine

/-! ## GESTURE (R121, R176) -/

/-- The bytes of a list of handles. -/
def bytesOfHandles (handles : List Word16) : List Byte := handles.flatMap fun h => [h.extractLsb' 8 8, h.extractLsb' 0 8]

theorem bytesOfHandles_cons (h : Word16) (rest : List Word16) :
    bytesOfHandles (h :: rest) = h.extractLsb' 8 8 :: h.extractLsb' 0 8 :: bytesOfHandles rest := rfl

theorem bytesOfHandles_length (handles : List Word16) : (bytesOfHandles handles).length = 2 * handles.length := by
  induction handles with
  | nil => rfl
  | cons h rest ih =>
    rw [bytesOfHandles_cons, List.length_cons, List.length_cons, List.length_cons, ih]
    omega

theorem handlesOfBytes_bytesOfHandles (handles : List Word16) : handlesOfBytes (bytesOfHandles handles) = handles := by
  induction handles with
  | nil => rfl
  | cons h rest ih => rw [bytesOfHandles_cons, handlesOfBytes, word16_extract, ih]

section
variable {s : State} {tag code flags : Byte} {handles : List Word16}

/-- A GESTURE packet without an anchor. -/
theorem exec_gesture_armed (hrun : Running s) (hlen : handles.length ≤ 116) (hflag : flags.getLsbD 1 = false) :
    exec (.gesture tag (code :: flags :: bytesOfHandles handles)) s =
      .next (takeGestureFields tag code (flags.getLsbD 0) none handles s) := by
  have hbytes := bytesOfHandles_length handles
  have hok : lengthOk .gesture (code :: flags :: bytesOfHandles handles) = true := by
    rw [lengthOk, Bool.and_eq_true]
    refine ⟨decide_eq_true (by rw [List.length_cons, List.length_cons, Config.payloadMax]; omega), ?_⟩
    simp only [hflag, hbytes, Bool.false_eq_true, if_false, Nat.mul_mod_right, beq_self_eq_true]
  refine (whileRunning_takeClass hrun hok tag).trans (congrArg _ ?_)
  show takeGesture tag (code :: flags :: bytesOfHandles handles) s = _
  exact (if_neg (ne_true_of_eq_false hflag)).trans
    (congrArg (takeGestureFields tag code (flags.getLsbD 0) none · s) (handlesOfBytes_bytesOfHandles handles))

/-- A GESTURE packet with an anchor. -/
theorem exec_gesture_anchored (hrun : Running s) (hlen : handles.length ≤ 116) (hflag : flags.getLsbD 1 = true)
    (x2 x1 x0 y2 y1 y0 : Byte) :
    exec (.gesture tag (code :: flags :: x2 :: x1 :: x0 :: y2 :: y1 :: y0 :: bytesOfHandles handles)) s =
      .next (takeGestureFields tag code (flags.getLsbD 0)
        (some ⟨storedCoord (x2 ++ x1 ++ x0), storedCoord (y2 ++ y1 ++ y0)⟩) handles s) := by
  have hbytes := bytesOfHandles_length handles
  have hok : lengthOk .gesture (code :: flags :: x2 :: x1 :: x0 :: y2 :: y1 :: y0 :: bytesOfHandles handles) = true := by
    rw [lengthOk, Bool.and_eq_true]
    refine ⟨decide_eq_true (by simp only [List.length_cons, Config.payloadMax]; omega), ?_⟩
    simp only [hflag, if_true, List.length_cons, hbytes, Bool.and_eq_true, decide_eq_true_eq, beq_iff_eq]
    omega
  refine (whileRunning_takeClass hrun hok tag).trans (congrArg _ ?_)
  show takeGesture tag (code :: flags :: x2 :: x1 :: x0 :: y2 :: y1 :: y0 :: bytesOfHandles handles) s = _
  exact (if_pos hflag).trans
    (congrArg (takeGestureFields tag code (flags.getLsbD 0) (some _) · s) (handlesOfBytes_bytesOfHandles handles))

variable {close : Bool} {anchor : Option Point}

theorem takeGestureFields_long (h : 8 < handles.length) :
    takeGestureFields tag code close anchor handles s = offer tag (.error 0x20 .length none) s := if_pos h

theorem takeGestureFields_unbegun (h : handles.length ≤ 8) (hno : gestureKindOf code = none ∨ s.gcu.live.state ≠ .idle) :
    takeGestureFields tag code close anchor handles s = offer tag (.error 0x20 .state none) s := by
  rw [takeGestureFields, if_neg (show ¬Config.exclusionMax < handles.length from Nat.not_lt.mpr h)]
  split
  next => rfl
  next k hk =>
    rcases hno with hnone | hlive
    · exact absurd (hnone.symm.trans hk) nofun
    · exact if_pos hlive

/-- The outcome for a known kind, from IDLE. -/
theorem takeGestureFields_idle (h : handles.length ≤ 8) {k : GestureKind} (hk : gestureKindOf code = some k)
    (hidle : s.gcu.live.state = .idle) : takeGestureFields tag code close anchor handles s =
      if anchor.any (fun a => !pointValid a) || (anchor.isSome && k == .point) then offer tag (.error 0x20 .state none) s
      else beginGesture k close anchor handles s := by
  rw [takeGestureFields, if_neg (show ¬Config.exclusionMax < handles.length from Nat.not_lt.mpr h), hk]
  exact if_neg (not_not_intro hidle)

end

/-- Settles O45. -/
theorem gestureBegins : Obligations.GestureBegins := by
  intro tag code flags x2 x1 x0 y2 y1 y0 handles s hrun hlen tail anchor armed tracking begun refused
  have harmed : flags.getLsbD 1 = false →
      exec armed s = .next (takeGestureFields tag code (flags.getLsbD 0) none handles s) := exec_gesture_armed hrun hlen
  have htracking : flags.getLsbD 1 = true →
      exec tracking s = .next (takeGestureFields tag code (flags.getLsbD 0) (some anchor) handles s) :=
    fun hflag => exec_gesture_anchored hrun hlen hflag x2 x1 x0 y2 y1 y0
  refine ⟨fun k hk hfew hidle => ⟨fun hflag => ?_, fun hflag hpoint hvalid => ?_, fun hflag hbad => ?_⟩,
    fun hmany => ⟨fun hflag => ?_, fun hflag => ?_⟩, fun hfew hno => ⟨fun hflag => ?_, fun hflag => ?_⟩⟩
  · rw [harmed hflag, takeGestureFields_idle hfew hk hidle]
    rfl
  · have htests : ¬((some anchor).any (fun a => !pointValid a) || ((some anchor).isSome && k == .point)) = true := by
      rw [Option.any_some, hvalid, Option.isSome_some, Bool.not_true, Bool.false_or, Bool.true_and, beq_iff_eq]
      exact hpoint
    rw [htracking hflag, takeGestureFields_idle hfew hk hidle, if_neg htests]
    rfl
  · have htests : ((some anchor).any (fun a => !pointValid a) || ((some anchor).isSome && k == .point)) = true := by
      rw [Option.any_some, Option.isSome_some, Bool.true_and, Bool.or_eq_true, Bool.not_eq_true', beq_iff_eq]
      exact hbad.symm
    rw [htracking hflag, takeGestureFields_idle hfew hk hidle, if_pos htests]
  · rw [harmed hflag, takeGestureFields_long hmany]
  · rw [htracking hflag, takeGestureFields_long hmany]
  · rw [harmed hflag, takeGestureFields_unbegun hfew hno]
  · rw [htracking hflag, takeGestureFields_unbegun hfew hno]

/-! ## The tests of a commit (R124) -/

/-- The two points are equal as sheet points (R35). -/
def SameSheetPoint (p q : Point) : Prop :=
  p.x.cls = .valid ∧ p.y.cls = .valid ∧ q.x.cls = .valid ∧ q.y.cls = .valid ∧ p.x.value = q.x.value ∧ p.y.value = q.y.value

theorem samePoint_iff (p q : Point) : samePoint p q = true ↔ SameSheetPoint p q := by
  rw [samePoint, Bool.and_eq_true, Bool.and_eq_true, Bool.and_eq_true, pointValid_iff, pointValid_iff, beq_iff_eq,
    beq_iff_eq, and_assoc, and_assoc, and_assoc, and_assoc, SameSheetPoint]

/-- In TRACKING, the point is that of the last vertex. -/
def CommitDuplicate (g : Gesture) (p : Point) : Prop :=
  g.state = .tracking ∧ ∃ v, g.vertices.getLast? = some v ∧ SameSheetPoint p v

section
variable {g : Gesture} {r : ResultRecord}

theorem commitDuplicate_iff : CommitDuplicate g r.point ↔
    g.state = .tracking ∧ (g.vertices.getLast?.any fun v => samePoint r.point v) = true := by
  refine and_congr_right fun _ => ?_
  cases g.vertices.getLast? with
  | none =>
    refine ⟨fun h => ?_, nofun⟩
    obtain ⟨_, h, -⟩ := h
    cases h
  | some v =>
    rw [Option.any_some, samePoint_iff]
    exact ⟨fun ⟨w, hw, h⟩ => Option.some.inj hw ▸ h, fun h => ⟨v, rfl, h⟩⟩

theorem commitFault_invalid (h : pointValid r.point = false) : commitFault g r = some .invalid := by
  rw [commitFault, h]
  rfl

theorem commitFault_absent (hvalid : pointValid r.point = true) (h : r.proximity = false) :
    commitFault g r = some .absent := by
  rw [commitFault, hvalid, h]
  rfl

theorem commitFault_duplicate (hvalid : pointValid r.point = true) (hprox : r.proximity = true)
    (h : CommitDuplicate g r.point) : commitFault g r = some .duplicate := by
  rw [commitFault, hvalid, hprox]
  exact if_pos (commitDuplicate_iff.mp h)

theorem commitFault_passes (hvalid : pointValid r.point = true) (hprox : r.proximity = true)
    (h : ¬CommitDuplicate g r.point) : commitFault g r = none := by
  rw [commitFault, hvalid, hprox]
  exact if_neg fun hdup => h (commitDuplicate_iff.mpr hdup)

/-- A commit that does not pass has a fault. -/
theorem commitFault_some (h : ¬(pointValid r.point = true ∧ r.proximity = true ∧ ¬CommitDuplicate g r.point)) :
    ∃ cause, commitFault g r = some cause := by
  cases hvalid : pointValid r.point with
  | false => exact ⟨_, commitFault_invalid hvalid⟩
  | true =>
    cases hprox : r.proximity with
    | false => exact ⟨_, commitFault_absent hvalid hprox⟩
    | true => exact ⟨_, commitFault_duplicate hvalid hprox (not_not.mp fun hdup => h ⟨hvalid, hprox, hdup⟩)⟩

/-- The commit leaves the gesture TRACKING (R126). -/
def CommitGoesOn (g : Gesture) : Prop :=
  g.state = .armed ∧ g.kind ≠ .point ∨ g.kind = .chain ∧ g.vertices.length < 15

theorem commitEnds_goesOn (hok : ContextOk g) (h : CommitGoesOn g) : commitEnds g.kind (g.vertices.length + 1) = none := by
  obtain ⟨-, harmed, -⟩ := hok
  rcases h with ⟨ha, hpoint⟩ | ⟨hchain, hlt⟩
  · rw [harmed ha]
    cases hk : g.kind with
    | point => exact absurd hk hpoint
    | _ => rfl
  · rw [hchain]
    exact if_pos (Nat.succ_lt_succ hlt)

theorem commitEnds_ends (hok : ContextOk g) (hlive : g.state ≠ .idle) (h : ¬CommitGoesOn g) :
    commitEnds g.kind (g.vertices.length + 1) = some (if g.kind = .chain then .full else .normal) := by
  obtain ⟨-, -, htracking, -⟩ := hok
  by_cases hpoint : g.kind = .point
  · rw [hpoint]
    rfl
  · have hstate : g.state = .tracking := by
      cases hs : g.state with
      | idle => exact absurd hs hlive
      | armed => exact absurd (.inl ⟨hs, hpoint⟩) h
      | tracking => rfl
    obtain ⟨-, -, hone⟩ := htracking hstate
    by_cases hchain : g.kind = .chain
    · have hfull : ¬g.vertices.length + 1 < Config.vertexMax := fun hlt => h (.inr ⟨hchain, Nat.lt_of_succ_lt_succ hlt⟩)
      rw [hchain]
      exact if_neg hfull
    · rw [hone hchain, if_neg hchain]
      cases hk : g.kind with
      | point => rfl
      | chain => exact absurd hk hchain
      | _ => rfl

end

/-! ## Commits (R123 to R128) -/

section
variable {s : State} {o : Origin} {tag : Byte}

/-- The state of an accepted commit whose report went to `queue`. -/
def committedState (o : Origin) (tag : Byte) (queue : List Report) (s : State) : State :=
  { s with rlt := { s.rlt with
    queue := queue ++ [⟨originTag o tag, .committed o (s.gcu.live.epoch + 1) s.gcu.live.vertices.length (shownResult s)⟩] } }

theorem acceptCommit_goesOn (hok : ContextOk s.gcu.live) (h : CommitGoesOn s.gcu.live) (queue : List Report) :
    acceptCommit o tag (s.withRlt { s.rlt with queue := queue }) =
      searchRequest { committedState o tag queue s with gcu := { s.gcu with live := { s.gcu.live with
        state := .tracking, vertices := s.gcu.live.vertices ++ [(shownResult s).point],
        epoch := s.gcu.live.epoch + 1 } } } := by
  have hends : commitEnds s.gcu.live.kind (s.gcu.live.vertices ++ [(shownResult s).point]).length = none := by
    rw [List.length_append, List.length_singleton]
    exact commitEnds_goesOn hok h
  unfold acceptCommit
  dsimp only [State.withRlt_gcu]
  rw [show shownResult (s.withRlt { s.rlt with queue := queue }) = shownResult s from rfl, hends]
  rfl

theorem acceptCommit_ends (hok : ContextOk s.gcu.live) (hlive : s.gcu.live.state ≠ .idle) (h : ¬CommitGoesOn s.gcu.live)
    (queue : List Report) :
    acceptCommit o tag (s.withRlt { s.rlt with queue := queue }) =
      searchRequest { offer (originTag o tag) (.gestureDone o (s.gcu.live.epoch + 1) s.gcu.live.kind
          (s.gcu.live.vertices ++ [(shownResult s).point]).length (if s.gcu.live.kind = .chain then .full else .normal)
          s.gcu.live.close) (committedState o tag queue s) with
        gcu := { s.gcu with live := ⟨s.gcu.live.kind, .idle, [], false, [], s.gcu.live.epoch + 1⟩ } } := by
  have hends : commitEnds s.gcu.live.kind (s.gcu.live.vertices ++ [(shownResult s).point]).length =
      some (if s.gcu.live.kind = .chain then .full else .normal) := by
    rw [List.length_append, List.length_singleton]
    exact commitEnds_ends hok hlive h
  unfold acceptCommit
  dsimp only [State.withRlt_gcu]
  rw [show shownResult (s.withRlt { s.rlt with queue := queue }) = shownResult s from rfl, hends]
  dsimp only
  rw [changeLive_offer]
  rfl

theorem commitLive_refused {cause : RefuseCause} (h : commitFault s.gcu.live (shownResult s) = some cause) :
    commitLive o tag s = tellRefusal o tag cause s := by rw [commitLive, h]

theorem commitLive_passes (h : commitFault s.gcu.live (shownResult s) = none) :
    commitLive o tag s = commitWithSlot o tag s := by rw [commitLive, h]

theorem commitWithSlot_some {u : State} (h : reserve s = some u) : commitWithSlot o tag s = acceptCommit o tag u := by
  unfold commitWithSlot
  rw [h]

theorem commitWithSlot_room (h : s.rlt.queue.length < 16) : commitWithSlot o tag s =
    acceptCommit o tag (s.withRlt { s.rlt with queue := s.rlt.queue }) := by
  have hfull : queueFull s = false := by rw [queueFull_eq]; exact decide_eq_false (Nat.not_le.mpr h)
  have hreserve : reserve s = some s := by rw [reserve, hfull]; rfl
  exact commitWithSlot_some hreserve

theorem commitWithSlot_track (h : 16 ≤ s.rlt.queue.length) (htrack : s.rlt.queue.any isTrack = true) :
    commitWithSlot o tag s = acceptCommit o tag (s.withRlt { s.rlt with queue := s.rlt.queue.eraseP isTrack }) := by
  have hfull : queueFull s = true := by rw [queueFull_eq]; exact decide_eq_true h
  have hreserve : reserve s = some (s.withRlt { s.rlt with queue := s.rlt.queue.eraseP isTrack }) := by
    rw [reserve, hfull, htrack]
    rfl
  exact commitWithSlot_some hreserve

theorem reserve_none (h : 16 ≤ s.rlt.queue.length) (htrack : s.rlt.queue.any isTrack = false) : reserve s = none := by
  have hfull : queueFull s = true := by rw [queueFull_eq]; exact decide_eq_true h
  rw [reserve, hfull, htrack]
  rfl

theorem commitWithSlot_packet_full (h : 16 ≤ s.rlt.queue.length) (htrack : s.rlt.queue.any isTrack = false) :
    commitWithSlot .packet tag s = s.dropped := by
  unfold commitWithSlot
  rw [reserve_none h htrack]
  exact offer_full h ..

theorem commitWithSlot_button_full (b : Fin 4) (h : 16 ≤ s.rlt.queue.length) (htrack : s.rlt.queue.any isTrack = false) :
    commitWithSlot (.button b) tag s = refusalNotice s := by
  rw [commitWithSlot, reserve_none h htrack]

theorem takeCommit_idle (h : s.gcu.live.state = .idle) : takeCommit tag s = offer tag (.error 0x21 .state none) s :=
  if_pos h

theorem takeCommit_live (h : s.gcu.live.state ≠ .idle) : takeCommit tag s = commitLive .packet tag s := if_neg h

theorem takePress_commit_live (b : Fin 4) (h : s.gcu.live.state ≠ .idle) :
    takePress b .commit s = commitLive (.button b) 0 s := if_neg h

theorem exec_commit (hrun : Running s) : exec (.commit tag []) s = .next (takeCommit tag s) :=
  whileRunning_takeClass (c := .commit) hrun rfl tag

end

/-- Settles O46: the tests, the place in the queue, then the end or the going on of the gesture. -/
theorem commitPlacesTheShownPoint : Obligations.CommitPlacesTheShownPoint := by
  intro tag i s hrun hok g r refused same duplicate passes vertices goesOn filled after ended placed
  have hshown : shownResult s = r := shownResult_eq s
  have hplaced : g.state ≠ .idle → ∀ queue, (∀ o t, commitLive o t s =
      acceptCommit o t (s.withRlt { s.rlt with queue := queue })) → placed queue := by
    intro hlive queue hqueue
    rw [show placed queue = ((goesOn → _ ∧ _) ∧ (¬goesOn → _ ∧ _)) from rfl, exec_commit hrun, takeCommit_live hlive,
      takePress_commit_live i hlive, hqueue, hqueue]
    refine ⟨fun hon => ?_, fun hoff => ?_⟩
    · rw [acceptCommit_goesOn hok hon, acceptCommit_goesOn hok hon, committedState, committedState, hshown]
      exact ⟨rfl, rfl⟩
    · rw [acceptCommit_ends hok hlive hoff, acceptCommit_ends hok hlive hoff, committedState, committedState, hshown]
      exact ⟨rfl, rfl⟩
  have hcommit : passes → ∀ o t, commitLive o t s = commitWithSlot o t s := fun ⟨_, hvalid, hprox, hdup⟩ o t =>
    commitLive_passes (by rw [hshown]; exact commitFault_passes hvalid hprox hdup)
  refine ⟨fun hno => ?_, fun hpass hroom => ?_, fun hpass hfull htrack => ?_, fun hpass hfull htrack => ?_⟩
  · rw [exec_commit hrun]
    by_cases hidle : g.state = .idle
    · rw [takeCommit_idle hidle]
    · obtain ⟨cause, hcause⟩ := commitFault_some (g := g) (r := r) fun hrest => hno ⟨hidle, hrest⟩
      rw [takeCommit_live hidle, commitLive_refused (by rw [hshown]; exact hcause)]
      rfl
  · exact hplaced hpass.1 _ fun o t => (hcommit hpass o t).trans (commitWithSlot_room hroom)
  · exact hplaced hpass.1 _ fun o t => (hcommit hpass o t).trans (commitWithSlot_track hfull htrack)
  · rw [exec_commit hrun, takeCommit_live hpass.1, hcommit hpass, commitWithSlot_packet_full hfull htrack]

/-! ## Presses (R60, R61, R131) -/

/-- The buttons that go down are handed over in ascending order. -/
theorem foldl_presses (before now : BitVec 4) (take : Fin 4 → State → State) (s : State) :
    (presses before now).foldl (fun s b => take b s) s =
      (fun press : Fin 4 → State → State => press 3 (press 2 (press 1 (press 0 s)))) fun b u =>
        if now.getLsbD b.val ∧ before.getLsbD b.val = false then take b u else u := by
  have hfilter : ∀ (l : List (Fin 4)) (u : State), (l.filter fun b => now.getLsbD b.val && !before.getLsbD b.val).foldl
      (fun s b => take b s) u =
      l.foldl (fun u b => if now.getLsbD b.val ∧ before.getLsbD b.val = false then take b u else u) u := by
    intro l
    induction l with
    | nil => exact fun _ => rfl
    | cons b rest ih =>
      intro u
      by_cases hb : now.getLsbD b.val ∧ before.getLsbD b.val = false
      · rw [List.filter_cons_of_pos (by simpa using hb), List.foldl_cons, List.foldl_cons, if_pos hb, ih]
      · rw [List.filter_cons_of_neg (by simpa using hb), List.foldl_cons, if_neg hb, ih]
  exact hfilter [0, 1, 2, 3] s

/-- Settles O48. -/
theorem pressesAreHandedOverInOrder : Obligations.PressesAreHandedOverInOrder := by
  intro levels b s stored press g r same duplicate refused
  have hshown : shownResult s = r := shownResult_eq s
  have hbutton : ∀ a, buttonReport b a s = offer 0 (.button b a r) s := fun a => by rw [buttonReport, hshown]
  have hfault : ∀ cause, commitFault g r = some cause → g.state ≠ .idle → takePress b .commit s = refused cause := by
    intro cause hcause hlive
    rw [takePress_commit_live b hlive, commitLive_refused (by rw [hshown]; exact hcause)]
    rfl
  refine ⟨foldl_presses .., rfl, hbutton .report, fun hidle a ha => ?_, fun hlive => ⟨fun hvalid => ?_,
    fun hvalid hprox => ?_, fun hvalid hprox hdup => ?_, fun hvalid hprox hdup hfull htrack => ?_⟩⟩
  · cases a with
    | none => exact absurd rfl ha
    | commit => exact (if_pos hidle).trans (hbutton .commit)
    | finish => exact (if_pos hidle).trans (hbutton .finish)
    | cancel => exact (if_pos hidle).trans (hbutton .cancel)
    | report => exact hbutton .report
  · exact hfault _ (commitFault_invalid hvalid) hlive
  · exact hfault _ (commitFault_absent hvalid hprox) hlive
  · exact hfault _ (commitFault_duplicate hvalid hprox hdup) hlive
  · rw [takePress_commit_live b hlive, commitLive_passes (by rw [hshown]; exact commitFault_passes hvalid hprox hdup),
      commitWithSlot_button_full b hfull htrack]
    rfl

end Sys2Proof.Machine

/-! Which events leave the gesture controller as it is, and how the others count the epoch (R120). -/

namespace Sys2Proof.Machine

/-! ## Events that leave the gesture controller as it is -/

section
variable (s : State) (tag : Byte) (payload : List Byte)

@[simp] theorem refuseClass_gcu (c : PacketClass) (cause : Cause) : (refuseClass tag c cause s).gcu = s.gcu := offer_gcu ..
@[simp] theorem refuse_gcu (cls : Byte) (cause : Cause) (cursor : Option Nat) :
    (refuse tag cls cause cursor s).gcu = s.gcu := offer_gcu ..
@[simp] theorem tableReport_gcu (target : Option Target) (e : TableEvent) : (tableReport tag target e s).gcu = s.gcu :=
  offer_gcu ..
@[simp] theorem offerTrack_gcu (r : ResultRecord) : (offerTrack r s).gcu = s.gcu := by rw [offerTrack_eq]; rfl
@[simp] theorem requestIf_gcu (wanted : Bool) : (requestIf wanted s).gcu = s.gcu := by
  cases wanted
  · rfl
  · exact searchRequest_gcu s
@[simp] theorem completeFence_gcu : (completeFence s).gcu = s.gcu := by rw [completeFence_eq]; exact offered_gcu ..
@[simp] theorem giveNotices_gcu (n : Notices) : (giveNotices n s).gcu = s.gcu := by rw [giveNotices_eq]

/-! ### Settings (R20, R24 to R29) -/

theorem takeSet_gcu (group : Byte) (pairs : List (Byte × Int)) : (takeSet tag group pairs s).gcu = s.gcu := by
  unfold takeSet
  split
  next => exact refuseClass_gcu ..
  next g _ =>
    split
    next =>
      unfold acceptSet
      dsimp only
      split
      · rfl
      · rw [requestIf_gcu, giveNotices_gcu]
        rfl
    next => exact refuseClass_gcu ..

theorem readGroup_gcu (group : Byte) : (readGroup tag group s).gcu = s.gcu := by
  unfold readGroup
  split
  next => exact offer_gcu ..
  next =>
    split
    · exact offer_gcu ..
    · split
      · unfold readStatus
        dsimp only
        split <;> rfl
      · exact refuseClass_gcu ..

theorem takeSync_gcu : (takeSync tag s).gcu = s.gcu := by
  unfold takeSync
  split
  · split
    · rfl
    · exact refuseClass_gcu ..
  · exact offer_gcu ..

/-! ### Tables (R69 to R90) -/

theorem takeLoadBegin_gcu : (takeLoadBegin tag payload s).gcu = s.gcu := by
  unfold takeLoadBegin
  split
  next => exact refuseClass_gcu ..
  next target _ =>
    dsimp only
    split
    next => exact refuseClass_gcu ..
    next =>
      split
      · cases target <;> rfl
      · exact refuseClass_gcu ..

theorem takeLoadData_gcu : (takeLoadData tag payload s).gcu = s.gcu := by
  rcases loadTests_cases tag .loadData payload s with ⟨cause, h⟩ | ⟨target, cursor, count, h, -⟩
  · rw [takeLoadData_inl h, refuseClass_gcu]
  · rw [takeLoadData, h]
    dsimp only
    split
    · exact refuse_gcu ..
    · split
      · exact refuse_gcu ..
      · cases target <;> rfl

theorem commitGhosts_gcu : (commitGhosts s).gcu = s.gcu := by
  unfold commitGhosts
  dsimp only
  split
  · exact tableReport_gcu ..
  · rfl

theorem commitDirections_gcu : (commitDirections s).gcu = s.gcu := by
  unfold commitDirections
  dsimp only
  split
  · exact tableReport_gcu ..
  · rfl

theorem commitGlyphs_gcu : (commitGlyphs s).gcu = s.gcu := by
  unfold commitGlyphs
  dsimp only
  split
  · exact tableReport_gcu ..
  · rfl

theorem stageOrCommit_gcu (target : Target) : (stageOrCommit target tag s).gcu = s.gcu := by
  have hstage : (stageTarget target tag s).gcu = s.gcu := by cases target <;> rfl
  unfold stageOrCommit
  dsimp only
  split
  · exact hstage
  · split
    · rw [commitGhosts_gcu, hstage]
    · rw [searchRequest_gcu, commitDirections_gcu, hstage]
    · rw [commitGlyphs_gcu, hstage]
    · exact hstage

theorem stageMismatch_gcu (target : Target) : (stageMismatch target tag s).gcu = s.gcu := by
  unfold stageMismatch
  rw [tableReport_gcu]
  split <;> rfl

theorem closeLoad_gcu (target : Target) (crc : Word16) : (closeLoad target tag crc s).gcu = s.gcu := by
  unfold closeLoad
  dsimp only
  split
  · split
    · rfl
    · exact tableReport_gcu ..
  · split
    · rfl
    · exact tableReport_gcu ..
  · split
    · exact stageOrCommit_gcu ..
    · exact stageMismatch_gcu ..

theorem takeLoadEnd_gcu : (takeLoadEnd tag payload s).gcu = s.gcu := by
  rcases loadTests_cases tag .loadEnd payload s with ⟨cause, h⟩ | ⟨target, cursor, count, h, -⟩
  · rw [takeLoadEnd_inl h, refuseClass_gcu]
  · rw [takeLoadEnd, h]
    dsimp only
    split
    · exact refuseClass_gcu ..
    · exact closeLoad_gcu ..

theorem completeBuild_gcu (b : BankId) : (completeBuild b s).gcu = s.gcu := by
  unfold completeBuild
  split
  · exact tableReport_gcu ..
  · rfl

theorem applyMark_gcu : (applyMark s).gcu = s.gcu := by
  obtain ⟨x, heq, -⟩ := applyMark_eq s
  rw [heq, offered_gcu]
  rfl

theorem setMark_gcu (m : Mark) : (setMark m s).gcu = s.gcu := by
  unfold setMark
  split
  · rfl
  · rw [searchRequest_gcu, activate_eq_applyMark rfl, applyMark_gcu]
    rfl

theorem takeActivate_gcu : (takeActivate tag payload s).gcu = s.gcu := by
  unfold takeActivate
  split
  next => exact refuseClass_gcu ..
  next b _ =>
    unfold activateBank
    split
    · rfl
    · split
      · exact refuseClass_gcu ..
      · exact setMark_gcu ..
    · exact refuseClass_gcu ..
  next =>
    split
    · rfl
    · exact setMark_gcu ..

theorem takeVerify_gcu : (takeVerify tag s).gcu = s.gcu := by
  unfold takeVerify
  split
  · exact refuseClass_gcu ..
  · rfl
  · rfl

theorem intervalEvent_gcu : (intervalEvent s).gcu = s.gcu := by
  unfold intervalEvent
  split
  · rw [intervalExpiry_eq]
  · rfl

theorem completeVerify_gcu (upset : Word16) : (completeVerify upset s).gcu = s.gcu := by
  unfold completeVerify
  split
  · rfl
  · dsimp only
    split <;> exact tableReport_gcu ..

/-! ### Searches, the tablet line and the lane -/

theorem publish_gcu : (publish s).gcu = s.gcu := by
  cases hf : s.sse.flight with
  | none => simp only [publish, hf]
  | some f =>
    rw [publish_flight hf, trackIf_released, rerunOrIdle_eq rfl rfl]
    split
    · exact searchRequest_gcu _
    · rfl

theorem takeFramingError_gcu : (takeFramingError s).gcu = s.gcu := by
  unfold takeFramingError
  split <;> rfl

theorem tabletSilence_gcu : (tabletSilence s).gcu = s.gcu := by
  unfold tabletSilence
  split
  · rfl
  · split
    · exact searchRequest_gcu _
    · rfl

/-! ### The video path (R5 to R13) -/

theorem lockFault_gcu (fault : LockFault) (line restore : Nat) : (lockFault fault line restore s).gcu = s.gcu := by
  obtain ⟨⟨-, -, -, -, -, -, hchanges, -⟩, -⟩ := lockFault_spec fault line restore s
  exact hchanges.gcu

theorem blinkStep_gcu : (blinkStep s).gcu = s.gcu := by
  unfold blinkStep
  split <;> rfl

theorem applyPoint_gcu : (applyPoint s).gcu = s.gcu := by
  obtain ⟨hchanges, -⟩ := applyPoint_spec s
  exact ChangesCurrent.gcu hchanges

theorem activeEnd_gcu : (activeEnd s).gcu = s.gcu := by rw [activeEnd_eq]

theorem activeStart_gcu : (activeStart s).gcu = s.gcu := by
  unfold activeStart
  dsimp only
  split
  · show (blinkStep (applyPoint _)).gcu = s.gcu
    rw [blinkStep_gcu, applyPoint_gcu]
    rfl
  · rw [blinkStep_gcu]
    rfl

theorem closeLine_gcu : (closeLine s).gcu = s.gcu := by
  by_cases hrun : s.vpl.run = 0
  · rw [closeLine_none hrun]
  · cases hlock : isLocked s with
    | false => rw [closeLine_unlocked hrun hlock]; rfl
    | true =>
      rw [closeLine_locked hrun hlock]
      split
      · rw [lockFault_gcu]; rfl
      · split
        · rw [activeEnd_gcu]; rfl
        · rfl

theorem pixelCount_gcu : (pixelCount s).gcu = s.gcu := by
  have hstart : (if s.vpl.awaitActive then activeStart s else s).gcu = s.gcu := by
    split
    · exact activeStart_gcu s
    · rfl
  unfold pixelCount
  generalize (if s.vpl.awaitActive then activeStart s else s) = s1 at hstart
  dsimp only
  refine Eq.trans ?_ hstart
  rw [State.withVpl_gcu]
  split
  · exact lockFault_gcu ..
  · split
    · exact lockFault_gcu ..
    · rfl

theorem judgeSearch_gcu : (judgeSearch s).gcu = s.gcu := by
  unfold judgeSearch
  dsimp only
  split <;> rfl

theorem judgeFrameEnd_gcu (was : LockState) : (judgeFrameEnd was s).gcu = s.gcu := by
  unfold judgeFrameEnd
  split
  · exact judgeSearch_gcu s
  · unfold judgeConfirm
    dsimp only
    split
    · rw [offer_gcu]; rfl
    · exact judgeSearch_gcu s
  · split
    · exact lockFault_gcu ..
    · rfl
  · rfl

theorem frameStart_gcu : (frameStart s).gcu = s.gcu := by
  show (judgeFrameEnd s.vpl.lock (closeLine s)).gcu = s.gcu
  rw [judgeFrameEnd_gcu, closeLine_gcu]

theorem lockSilence_gcu : (lockSilence s).gcu = s.gcu := by
  cases hrun : s.vpl.silence with
  | stopped => simp only [lockSilence, hrun]
  | running n =>
    cases hlock : isLocked s with
    | true =>
      rw [lockSilence_locked hrun hlock]
      show (applyPoint _).gcu = s.gcu
      rw [applyPoint_gcu, offer_gcu]
      rfl
    | false =>
      rw [lockSilence_unlocked hrun hlock]
      rfl

theorem cycleEvents_gcu (c : VideoIn) : (cycleEvents c s).gcu = s.gcu := by
  have hframe : (if c.vvs && !s.vpl.prevVvs then frameStart s else if !c.vde then closeLine s else s).gcu = s.gcu := by
    split
    · exact frameStart_gcu s
    · split
      · exact closeLine_gcu s
      · rfl
  unfold cycleEvents
  generalize (if c.vvs && !s.vpl.prevVvs then frameStart s else if !c.vde then closeLine s else s) = s1 at hframe
  have hcount : (if c.vde then pixelCount s1 else s1).gcu = s1.gcu := by
    split
    · exact pixelCount_gcu s1
    · rfl
  dsimp only
  refine Eq.trans ?_ (hcount.trans hframe)
  split <;> rfl

/-- A cycle that carries no control bytes leaves the gesture controller. -/
theorem videoCycle_gcu {c : VideoIn} (h : (c.vcx && !c.vde) = false) : (videoCycle c s).gcu = s.gcu := by
  unfold videoCycle
  rw [h]
  split
  · rfl
  · exact cycleEvents_gcu s c

end

/-! ## Events that change the live gesture (R120) -/

/-- The live gesture is unchanged, or its epoch has advanced by exactly one. -/
def EpochStep (s t : State) : Prop := t.gcu.live = s.gcu.live ∨ t.gcu.live.epoch = s.gcu.live.epoch + 1

section
variable {s t u : State}

theorem EpochStep.of_gcu (h : t.gcu = s.gcu) : EpochStep s t := .inl (congrArg Gcu.live h)

theorem EpochStep.of_live (h : t.gcu.live = s.gcu.live) : EpochStep s t := .inl h

theorem EpochStep.of_eq (h : t = s) : EpochStep s t := .of_gcu (congrArg State.gcu h)

/-- What follows leaves the gesture controller. -/
theorem EpochStep.then_gcu (h : EpochStep s t) (k : u.gcu = t.gcu) : EpochStep s u := by
  rw [EpochStep, k]
  exact h

/-- What goes before leaves the live gesture. -/
theorem EpochStep.after_live (h : EpochStep t u) (k : t.gcu.live = s.gcu.live) : EpochStep s u := by
  rw [EpochStep, ← k]
  exact h

theorem epochStep_changeLive (g : Gesture) (s : State) : EpochStep s (changeLive g s) := .inr rfl

variable (s)

theorem epochStep_liveEnded (tag : Byte) (body : ReportBody) : EpochStep s (liveEnded tag body s) := by
  refine EpochStep.then_gcu (t := changeLive (idleGesture s.gcu.live) s) (epochStep_changeLive ..) ?_
  rw [liveEnded, searchRequest_gcu]
  rfl

theorem epochStep_takeGestureFields (tag code : Byte) (close : Bool) (anchor : Option Point) (handles : List Word16) :
    EpochStep s (takeGestureFields tag code close anchor handles s) := by
  unfold takeGestureFields
  split
  next => exact .of_gcu (refuseClass_gcu ..)
  next =>
    split
    next => exact .of_gcu (refuseClass_gcu ..)
    next =>
      split
      next => exact .of_gcu (refuseClass_gcu ..)
      next =>
        split
        next => exact .of_gcu (refuseClass_gcu ..)
        next => exact (epochStep_changeLive ..).then_gcu (searchRequest_gcu _)

theorem epochStep_takeGesture (tag : Byte) (payload : List Byte) : EpochStep s (takeGesture tag payload s) := by
  unfold takeGesture
  dsimp only
  split <;> exact epochStep_takeGestureFields ..

theorem epochStep_acceptCommit (o : Origin) (tag : Byte) : EpochStep s (acceptCommit o tag s) := by
  unfold acceptCommit
  dsimp only
  split
  · exact (((epochStep_changeLive _ (enqueue _ s)).after_live rfl)).then_gcu (searchRequest_gcu _)
  · refine ((epochStep_changeLive _ _).after_live ?_).then_gcu (searchRequest_gcu _)
    rw [offer_gcu]
    rfl

theorem epochStep_commitLive (tag : Byte) : EpochStep s (commitLive .packet tag s) := by
  unfold commitLive
  split
  · exact .of_gcu (refuseClass_gcu ..)
  · unfold commitWithSlot
    split
    next u hu =>
      obtain ⟨hqueue, -⟩ := reserve_some hu
      exact (epochStep_acceptCommit u ..).after_live (by rw [hqueue]; rfl)
    next => exact .of_gcu (refuseClass_gcu ..)

theorem epochStep_cancelLive (o : Origin) (tag : Byte) : EpochStep s (cancelLive o tag s) := by
  rw [cancelLive_eq]
  exact epochStep_liveEnded ..

theorem epochStep_endLive (o : Origin) (tag : Byte) : EpochStep s (endLive o tag s) := by
  by_cases h : ChainFinishable s.gcu.live
  · rw [endLive_of_finishable h]
    exact epochStep_liveEnded ..
  · rw [endLive_of_not_finishable h]
    exact epochStep_cancelLive ..

theorem contextReport_gcu (tag : Byte) (op : ContextOp) (i : Fin 4) (c : Gesture) :
    (contextReport tag op i c s).gcu = s.gcu := offer_gcu ..

theorem epochStep_takeContext (op : ContextOp) (tag : Byte) (i : Fin 4) : EpochStep s (takeContext op tag i s) := by
  have hslot : ∀ c, (s.withGcu (setSlot s.gcu i c)).gcu.live = s.gcu.live := fun c => setSlot_live ..
  cases op with
  | park =>
    show EpochStep s (takePark tag i s)
    unfold takePark
    dsimp only
    split
    · exact .of_gcu (refuseClass_gcu ..)
    · exact ((epochStep_changeLive _ _).after_live (hslot _)).then_gcu
        ((searchRequest_gcu _).trans (contextReport_gcu ..))
  | copy =>
    show EpochStep s (takeCopy tag i s)
    unfold takeCopy
    dsimp only
    split
    · exact .of_gcu (refuseClass_gcu ..)
    · exact (EpochStep.of_live (hslot _)).then_gcu (contextReport_gcu ..)
  | resume =>
    show EpochStep s (takeResume tag i s)
    unfold takeResume
    split
    · exact .of_gcu (refuseClass_gcu ..)
    · split
      · exact .of_gcu (refuseClass_gcu ..)
      · exact ((epochStep_changeLive _ _).after_live (hslot _)).then_gcu
          ((searchRequest_gcu _).trans (contextReport_gcu ..))
  | discard =>
    show EpochStep s (takeDiscard tag i s)
    unfold takeDiscard
    split
    · exact .of_gcu (refuseClass_gcu ..)
    · exact (EpochStep.of_live (hslot _)).then_gcu (contextReport_gcu ..)

/-! ### Scoped resets (R30, R138) -/

theorem epochStep_gestureReset (tag : Byte) : EpochStep s (gestureReset tag s) := by
  have hlive : EpochStep s (resetLive tag s) := by
    unfold resetLive
    dsimp only
    split
    · exact .of_eq rfl
    · exact (epochStep_changeLive ..).after_live (congrArg Gcu.live (offer_gcu ..))
  exact hlive

theorem finishReset_gcu (tag : Byte) (scope : Scope) : (finishReset tag scope s).gcu = s.gcu := by
  rw [finishReset, offer_gcu, searchRequest_gcu]

theorem fenceAfterReset_gcu : (fenceAfterReset s).gcu = s.gcu := by
  unfold fenceAfterReset
  split
  · rfl
  · exact completeFence_gcu s

theorem tablesReset_gcu : (tablesReset s).gcu = s.gcu := rfl

theorem settingsReset_gcu : (settingsReset s).gcu = s.gcu := giveNotices_gcu ..

theorem epochStep_resetScopeGesture (tag : Byte) : EpochStep s (resetScopeGesture tag s) :=
  (epochStep_gestureReset s tag).then_gcu ((finishReset_gcu ..).trans (fenceAfterReset_gcu _))

theorem resetScopeTables_gcu (tag : Byte) : (resetScopeTables tag s).gcu = s.gcu :=
  (finishReset_gcu ..).trans ((fenceAfterReset_gcu _).trans (tablesReset_gcu s))

theorem resetScopeSettings_gcu (tag : Byte) : (resetScopeSettings tag s).gcu = s.gcu :=
  (finishReset_gcu ..).trans ((fenceAfterReset_gcu _).trans (settingsReset_gcu s))

theorem mailboxReset_gcu : (mailboxReset s).gcu = s.gcu := rfl

theorem flushQueue_gcu : (flushQueue s).gcu = s.gcu := rfl

theorem dropFence_gcu : (dropFence s).gcu = s.gcu := rfl

theorem epochStep_resetScopeAll (tag : Byte) : EpochStep s (resetScopeAll tag s) := by
  refine (epochStep_gestureReset s tag).then_gcu ?_
  rw [resetScopeAll, finishReset_gcu, dropFence_gcu, resetAllSteps, mailboxReset_gcu, flushQueue_gcu, settingsReset_gcu,
    tablesReset_gcu]

end

/-! ## Packets and commands -/

/-- A packet of any class but POINTER. -/
theorem epochStep_takeOwned {c : PacketClass} (hc : c ≠ .pointer) (tag : Byte) (payload : List Byte) (s : State) :
    EpochStep s (takeOwned c tag payload s) := by
  cases c with
  | set => exact .of_gcu (takeSet_gcu ..)
  | read => exact .of_gcu (readGroup_gcu ..)
  | loadBegin => exact .of_gcu (takeLoadBegin_gcu ..)
  | loadData => exact .of_gcu (takeLoadData_gcu ..)
  | loadEnd => exact .of_gcu (takeLoadEnd_gcu ..)
  | activate => exact .of_gcu (takeActivate_gcu ..)
  | verify => exact .of_gcu (takeVerify_gcu ..)
  | gesture => exact epochStep_takeGesture ..
  | commit =>
    by_cases h : s.gcu.live.state = .idle
    · exact .of_gcu ((congrArg State.gcu (takeCommit_idle h)).trans (offer_gcu ..))
    · exact (epochStep_commitLive s tag).then_gcu (congrArg State.gcu (takeCommit_live h))
  | endGesture =>
    by_cases h : s.gcu.live.state = .idle
    · exact .of_gcu ((congrArg State.gcu (takeEnd_idle tag h)).trans (offer_gcu ..))
    · exact (epochStep_endLive s .packet tag).then_gcu (congrArg State.gcu (takeEnd_live tag h))
  | cancel =>
    by_cases h : s.gcu.live.state = .idle
    · exact .of_gcu ((congrArg State.gcu (takeCancel_idle tag h)).trans (offer_gcu ..))
    · exact (epochStep_cancelLive s .packet tag).then_gcu (congrArg State.gcu (takeCancel_live tag h))
  | context => exact epochStep_takeContext ..
  | pointer => exact absurd rfl hc
  | sync => exact .of_gcu (takeSync_gcu ..)
  | echo => exact .of_gcu (offer_gcu ..)
  | reset =>
    rw [takeOwned]
    split
    · exact .of_gcu (refuseClass_gcu ..)
    · exact epochStep_resetScopeGesture ..
    · exact .of_gcu (resetScopeTables_gcu ..)
    · exact .of_gcu (resetScopeSettings_gcu ..)
    · exact epochStep_resetScopeAll ..

theorem epochStep_takeClass {c : PacketClass} (hc : c ≠ .pointer) (tag : Byte) (payload : List Byte) (s : State) :
    EpochStep s (takeClass c tag payload s) := by
  unfold takeClass
  split
  · exact epochStep_takeOwned hc ..
  · exact .of_gcu (refuseClass_gcu ..)

theorem epochStep_whileRunning {f : State → State} (hf : ∀ s, EpochStep s (f s)) {s t : State}
    (h : whileRunning f s = .next t) : EpochStep s t := by
  cases h
  split
  · exact .of_eq rfl
  · exact hf s

theorem epochStep_sameGcu {f : State → State} (hf : ∀ s, (f s).gcu = s.gcu) {s t : State}
    (h : whileRunning f s = .next t) : EpochStep s t := epochStep_whileRunning (fun s => .of_gcu (hf s)) h

theorem epochStep_video {c : VideoIn} (hc : (c.vcx && !c.vde) = false) {s t : State}
    (h : Host.Outcome.next (videoCycle c s) = (.next t : Host.Outcome State Fault Refusal)) : EpochStep s t := by
  cases h
  exact .of_gcu (videoCycle_gcu s hc)

/-- Settles O50: a command is one event, which changes the live gesture only with its epoch. -/
theorem epochCountsTheChanges : Obligations.EpochCountsTheChanges := by
  intro c s t hwell hpower hcontrol hframe hpointer hbyte hchars h
  change EpochStep s t
  cases c with
  | powerOn _ | resetPinAssert | resetPinRelease _ => cases hpower
  | controlByteCycle vd vhs vvs => exact absurd rfl (hcontrol vd vhs vvs)
  | vcxInActiveVideo vd vhs vvs => exact epochStep_video (Bool.and_false true) h
  | pixelCycle vd vhs vvs => exact epochStep_video rfl h
  | lineEnd vd vhs vvs => exact epochStep_video rfl h
  | frameStart vd vhs vde vcx =>
    refine epochStep_video ?_ h
    cases vcx with
    | false => rfl
    | true =>
      cases vde with
      | false => exact absurd rfl (hframe vd vhs)
      | true => rfl
  | lockSilenceExpiry => exact epochStep_sameGcu lockSilence_gcu h
  | packetUnknownClass cls tag payload =>
    have hnone : classOf cls = none := by
      refine classOf_none fun hmem => ?_
      rw [WellFormed, List.contains_iff_mem.mpr hmem] at hwell
      cases hwell
    refine epochStep_sameGcu (fun u => ?_) h
    show (takePacket cls tag payload u).gcu = u.gcu
    rw [takePacket, hnone]
    exact refuse_gcu ..
  | set tag payload => exact epochStep_whileRunning (epochStep_takeClass (c := .set) nofun tag payload) h
  | read tag payload => exact epochStep_whileRunning (epochStep_takeClass (c := .read) nofun tag payload) h
  | readIdentity tag | readStatus tag => exact epochStep_whileRunning (epochStep_takeClass (c := .read) nofun tag _) h
  | loadBegin tag payload => exact epochStep_whileRunning (epochStep_takeClass (c := .loadBegin) nofun tag payload) h
  | loadData tag payload => exact epochStep_whileRunning (epochStep_takeClass (c := .loadData) nofun tag payload) h
  | loadEnd tag payload => exact epochStep_whileRunning (epochStep_takeClass (c := .loadEnd) nofun tag payload) h
  | buildComplete bank => exact epochStep_sameGcu (completeBuild_gcu · bank) h
  | activate tag payload => exact epochStep_whileRunning (epochStep_takeClass (c := .activate) nofun tag payload) h
  | verify tag payload => exact epochStep_whileRunning (epochStep_takeClass (c := .verify) nofun tag payload) h
  | verifyIntervalExpiry => exact epochStep_sameGcu intervalEvent_gcu h
  | verifyComplete upset => exact epochStep_sameGcu (completeVerify_gcu · upset) h
  | gesture tag payload => exact epochStep_whileRunning (epochStep_takeClass (c := .gesture) nofun tag payload) h
  | commit tag payload => exact epochStep_whileRunning (epochStep_takeClass (c := .commit) nofun tag payload) h
  | endGesture tag payload => exact epochStep_whileRunning (epochStep_takeClass (c := .endGesture) nofun tag payload) h
  | cancel tag payload => exact epochStep_whileRunning (epochStep_takeClass (c := .cancel) nofun tag payload) h
  | park tag i => exact epochStep_whileRunning (fun u => epochStep_takeContext u .park tag i) h
  | copy tag i => exact epochStep_whileRunning (fun u => epochStep_takeContext u .copy tag i) h
  | resume tag i => exact epochStep_whileRunning (fun u => epochStep_takeContext u .resume tag i) h
  | discard tag i => exact epochStep_whileRunning (fun u => epochStep_takeContext u .discard tag i) h
  | pointer tag payload => exact absurd rfl (hpointer tag payload)
  | sync tag payload => exact epochStep_whileRunning (epochStep_takeClass (c := .sync) nofun tag payload) h
  | echo tag payload => exact epochStep_whileRunning (epochStep_takeClass (c := .echo) nofun tag payload) h
  | resetGesture tag => exact epochStep_whileRunning (epochStep_resetScopeGesture · tag) h
  | resetTables tag => exact epochStep_sameGcu (resetScopeTables_gcu · tag) h
  | resetSettings tag => exact epochStep_sameGcu (resetScopeSettings_gcu · tag) h
  | resetAll tag => exact epochStep_whileRunning (epochStep_resetScopeAll · tag) h
  | tabletByte b => exact absurd rfl (hbyte b)
  | tabletFramingError => exact epochStep_sameGcu takeFramingError_gcu h
  | tabletFrame b0 b1 b2 b3 b4 b5 b6 b7 => exact absurd rfl (hchars b0 b1 b2 b3 b4 b5 b6 b7)
  | tabletSilenceExpiry => exact epochStep_sameGcu tabletSilence_gcu h
  | searchPublish => exact epochStep_sameGcu publish_gcu h
  | reportTxStart hold => exact epochStep_sameGcu (f := fun u => u.withRlt (tryTransmit hold u.rlt)) (fun _ => rfl) h
  | reportTxEnd => exact epochStep_sameGcu (f := fun u => u.withRlt { u.rlt with transmission := none }) (fun _ => rfl) h
  | tabletLineReturnHigh => exact epochStep_sameGcu (f := lineReturnsHigh) (fun _ => rfl) h

end Sys2Proof.Machine

/-! The return lane: transmissions, characters and the bytes of reports (R164, R165, R169 to R171, R178). -/

namespace Sys2Proof.Machine

/-! ## Values as bytes (R175) -/

theorem bytesOfNat_two (n : Nat) : bytesOfNat 2 n = [BitVec.ofNat 8 (n / 256), BitVec.ofNat 8 n] := by
  rw [bytesOfNat, bytesOfNat, bytesOfNat, pow_one, pow_zero, Nat.div_one]

theorem bytesOfNat_eq_map (size n : Nat) :
    bytesOfNat size n = (List.range size).map fun j => BitVec.ofNat 8 (n / 256 ^ (size - 1 - j)) := by
  induction size with
  | zero => rfl
  | succ size ih =>
    rw [bytesOfNat, ih, List.range_succ_eq_map, List.map_cons, List.map_map]
    refine congrArg _ (List.map_congr_left fun j _ => ?_)
    rw [Function.comp_apply, show size + 1 - 1 - (j + 1) = size - 1 - j by omega]

/-- A byte of a value is that of the value modulo a higher power. -/
theorem byte_of_emod (v : Int) {k size : Nat} (h : k < size) :
    BitVec.ofNat 8 ((v % (256 ^ size : Nat)).toNat / 256 ^ k) = BitVec.ofInt 8 (v / (256 : Int) ^ k) := by
  obtain ⟨d, rfl⟩ : ∃ d, size = d + 1 + k := ⟨size - 1 - k, by omega⟩
  have hpos : (0 : Int) < 256 ^ k := by positivity
  have hbig : ((256 ^ (d + 1 + k) : Nat) : Int) = 256 ^ d * 256 * 256 ^ k := by push_cast; ring
  have hnonneg : 0 ≤ v % (256 ^ d * 256 * 256 ^ k : Int) := Int.emod_nonneg v (by positivity)
  have hsplit : v / (256 : Int) ^ k =
      v % (256 ^ d * 256 * 256 ^ k) / 256 ^ k + 256 ^ d * (v / (256 ^ d * 256 * 256 ^ k)) * 256 := by
    have hv : v = v % (256 ^ d * 256 * 256 ^ k) + 256 ^ d * (v / (256 ^ d * 256 * 256 ^ k)) * 256 * 256 ^ k := by
      have hdiv := Int.emod_add_mul_ediv v (256 ^ d * 256 * 256 ^ k)
      linarith
    conv_lhs => rw [hv]
    rw [Int.add_mul_ediv_right _ _ hpos.ne']
  refine BitVec.eq_of_toInt_eq ?_
  rw [hbig, hsplit, ← BitVec.ofInt_natCast, BitVec.toInt_ofInt, BitVec.toInt_ofInt]
  push_cast
  rw [Int.toNat_of_nonneg hnonneg]
  exact (Int.add_mul_bmod_self_right _ _ _).symm

/-- The bytes of a signed value, most significant first. -/
theorem bytesOfInt_eq_map (size : Nat) (v : Int) :
    bytesOfInt size v = (List.range size).map fun j => BitVec.ofInt 8 (v / (256 : Int) ^ (size - 1 - j)) := by
  rw [bytesOfInt, bytesOfNat_eq_map]
  refine List.map_congr_left fun j hj => byte_of_emod v ?_
  have hlt := List.mem_range.mp hj
  omega

/-! ## The blocks of a payload (R175, R178) -/

/-- The status byte. -/
theorem statusByte_eq (r : ResultRecord) : statusByte r = BitVec.ofNat 8 (sourceCode r.source +
    (if r.truncated then 4 else 0) + (if r.proximity then 8 else 0)) := by
  rw [statusByte]
  cases r.truncated <;> cases r.proximity <;> rfl

theorem bankByte_of_code (b : BankId) : byteOf (bankCode (some b)) = if b = .snap0 then 0 else 1 := by cases b <;> rfl

/-! ## Transmissions (R164, R165, R169 to R171) -/

theorem flagsByte_bits (overrun : Bool) (b : ReportBody) : (flagsByte overrun b).getLsbD 0 = overrun ∧
    (flagsByte overrun b).getLsbD 1 = noTag b ∧ (flagsByte overrun b).toNat < 4 := by
  unfold flagsByte
  cases overrun <;> cases noTag b <;> decide

theorem noTag_iff (b : ReportBody) : noTag b = true ↔ ∃ cls cursor, b = .error cls .check cursor := by
  unfold noTag
  split
  next cls cursor => exact ⟨fun _ => ⟨cls, cursor, rfl⟩, fun _ => rfl⟩
  next hno => exact ⟨nofun, fun ⟨cls, cursor, h⟩ => absurd h (hno cls cursor)⟩

/-- The check byte makes the bytes after the lead byte sum to 0. -/
theorem checkedBytes_sum (r : Report) (flags : Byte) :
    (checkedBytes r flags ++ [checkByte r flags]).foldl (· + ·) 0 = 0 := by
  rw [List.foldl_append, checkByte]
  exact add_sub_cancel _ 0

theorem tryTransmit_begins {l : Rlt} {r : Report} {rest : List Report} (hidle : l.transmission = none)
    (hqueue : l.queue = r :: rest) : tryTransmit false l = { l with
      queue := rest, transmission := some ⟨r, flagsByte l.overrun r.body, checkByte r (flagsByte l.overrun r.body), 0⟩
      overrun := false, hold := false } := by
  simp only [tryTransmit, hidle, hqueue]
  rfl

theorem tryTransmit_waits {l : Rlt} {hold : Bool} (h : l.transmission ≠ none ∨ l.queue = [] ∨ hold = true) :
    tryTransmit hold l = { l with hold := hold } := by
  unfold tryTransmit
  split
  next r rest hidle hqueue =>
    rcases h with h | h | h
    · exact absurd hidle h
    · exact absurd (hqueue.symm.trans h) (List.cons_ne_nil r rest)
    · cases h
  next => rfl

theorem laneLevel_idle {l : Rlt} (h : l.transmission = none) : laneLevel l = true := by rw [laneLevel, h]

theorem laneLevel_sending {l : Rlt} {m : Transmission} (h : l.transmission = some m) {bit : Bool}
    (hbit : (laneBits m)[m.position]? = some bit) : laneLevel l = bit := by
  rw [laneLevel, h]
  show (laneBits m).getD m.position true = bit
  rw [List.getD_eq_getElem?_getD, hbit]
  rfl

theorem exec_reportTxStart {s : State} (hrun : Running s) (hold : Bool) :
    exec (.reportTxStart hold) s = .next (s.withRlt (tryTransmit hold s.rlt)) :=
  whileRunning_running hrun fun s => s.withRlt (tryTransmit hold s.rlt)

theorem exec_reportTxEnd {s : State} (hrun : Running s) :
    exec .reportTxEnd s = .next (s.withRlt { s.rlt with transmission := none }) :=
  whileRunning_running hrun fun s => s.withRlt { s.rlt with transmission := none }

/-- Settles O54. -/
theorem reportsAreSentWithFlagsAndCheck : Obligations.ReportsAreSentWithFlagsAndCheck := by
  refine ⟨fun r rest hold s hrun => ⟨fun hidle hqueue => ?_, fun hwait => ?_, exec_reportTxEnd hrun⟩,
    fun l m => ?_, ?_⟩
  · obtain ⟨hoverrun, hnoTag, hfew⟩ := flagsByte_bits s.rlt.overrun r.body
    refine ⟨⟨r, flagsByte s.rlt.overrun r.body, checkByte r (flagsByte s.rlt.overrun r.body), 0⟩, ?_, rfl, rfl, hoverrun,
      ?_, hfew, rfl, checkedBytes_sum ..⟩
    · refine (exec_reportTxStart hrun _).trans (congrArg _ ?_)
      rw [tryTransmit_begins hidle hqueue]
      rfl
    · rw [hnoTag, noTag_iff]
  · refine (exec_reportTxStart hrun _).trans (congrArg _ ?_)
    rw [tryTransmit_waits hwait]
    rfl
  · intro character
    exact ⟨laneLevel_idle, fun hm bit hbit => laneLevel_sending hm hbit⟩
  · intro r i o epoch live n index width height k state flag group cls fields bytes b two signed clsNo point sourceNo
      status snapNo object result origin kindNo stateNo bit sends
    have htwo : ∀ n, bytesOfNat 2 n = two n := bytesOfNat_two
    have hpoint : ∀ p, pointBytes p = point p := by
      intro p
      rw [pointBytes, bytesOfInt_eq_map, bytesOfInt_eq_map]
      have hcls : ∀ c, classBits c = clsNo c := fun c => by cases c <;> rfl
      rw [hcls, hcls]
      rfl
    have hstatus : statusByte r = status := by
      have hsource : sourceCode r.source = sourceNo := by
        show _ = match r.source with | .raw => 0 | .grid => 1 | .constrained => 2 | .object => 3
        cases r.source <;> rfl
      rw [statusByte_eq, hsource]
    have hobject : objectBytes r = object := by
      show _ = match r.object with
        | none => []
        | some o => two o.index ++ [b (snapNo o.kind), b o.layer] ++ two o.handle.toNat ++ two o.dist2 ++
            [if o.bank = BankId.snap0 then 0 else 1]
      unfold objectBytes
      cases r.object with
      | none => rfl
      | some o =>
        have hsnap : snapKindCode o.kind = snapNo o.kind := by cases o.kind <;> rfl
        dsimp only
        rw [htwo, htwo, htwo, bankByte_of_code, hsnap]
        rfl
    have hresult : resultBytes r = result := by
      rw [resultBytes, htwo, hpoint, hpoint, hstatus, hobject]
    have horigin : originByte o = origin := by cases o <;> rfl
    have hkind : byteOf (gestureKindCode k) = kindNo := by cases k <;> rfl
    have hstate : byteOf (gestureStateCode state) = stateNo := by cases state <;> rfl
    have hbit : ∀ f : Bool, byteOf (boolCode f) = if f then 1 else 0 := fun f => by cases f <;> rfl
    have hactions : ∀ e ∈ [(Action.none, (0 : Byte)), (.commit, 1), (.finish, 2), (.cancel, 3), (.report, 4)],
        byteOf (actionCode e.1) = e.2 := by decide
    have hops : ∀ e ∈ [(ContextOp.park, 0), (.copy, 4), (.resume, 8), (.discard, 12)], 4 * contextOpCode e.1 = e.2 := by
      decide
    have hcauses : ∀ e ∈ [(Cause.check, (0 : Byte)), (.cls, 1), (.length, 2), (.field, 3), (.count, 4), (.state, 5),
        (.sequence, 6), (.overflow, 7), (.short, 8), (.notReady, 9), (.active, 10), (.inUse, 11), (.source, 12)],
        byteOf (causeCode e.1) = e.2 := by decide
    have htargets : ∀ e ∈ [(some Target.snap0, (0 : Byte)), (some .snap1, 1), (some .ghost, 2), (some .directions, 3),
        (some .glyph, 4), (none, 5)], byteOf (targetCode e.1) = e.2 := by decide
    have hlocks : ∀ e ∈ [(LockState.search, (0 : Byte)), (.confirm, 1), (.locked, 2), (.lost, 3)],
        byteOf (lockCode e.1) = e.2 := by decide
    have hlinks : ∀ e ∈ [(LinkCause.acquired, (0 : Byte)), (.mismatch, 1), (.silence, 2)],
        byteOf (linkCauseCode e.1) = e.2 := by decide
    have hfaults : ∀ e ∈ [(none, (0 : Byte)), (some LockFault.width, 1), (some .excess, 2), (some .short, 3)],
        byteOf (lockFaultCode e.1) = e.2 := by decide
    have hscopes : ∀ e ∈ [(Scope.gesture, (0 : Byte)), (.tables, 1), (.settings, 2), (.all, 3)],
        byteOf (scopeCode e.1) = e.2 := by decide
    refine ⟨⟨rfl, hresult⟩, ⟨rfl, ?committed⟩, ⟨rfl, rfl⟩, ⟨rfl, rfl⟩, ⟨rfl, rfl⟩, ⟨rfl, ?doneNormal⟩, ⟨rfl, ?doneFull⟩,
      ⟨rfl, ?cancelled⟩, ⟨rfl, ?cancelledReset⟩, fun e he => ⟨rfl, ?pressed⟩, fun e he => ⟨rfl, ?context⟩, ⟨rfl, ?setting⟩,
      ⟨rfl, rfl⟩, ⟨rfl, rfl⟩, fun e he => ⟨⟨rfl, ?error⟩, ⟨rfl, ?errorCursor⟩⟩,
      fun e he => ⟨⟨rfl, ?mismatch⟩, ⟨rfl, ?built⟩, ⟨rfl, ?tableCommitted⟩, ⟨rfl, ?activated⟩, ⟨rfl, ?verified⟩,
        ⟨rfl, ?damaged⟩, ⟨rfl, ?aborted⟩⟩, fun st hst cause hcause fault hfault => ⟨rfl, ?link⟩,
      fun e he => ⟨rfl, congrArg (fun x => [x]) (hscopes e he)⟩⟩
    case committed => rw [payloadBytes, horigin, htwo, htwo, hpoint, hstatus, hobject]; rfl
    case doneNormal => rw [payloadBytes, horigin, htwo, hkind, hbit]; rfl
    case doneFull => rw [payloadBytes, horigin, htwo, hkind, hbit]; rfl
    case cancelled => rw [payloadBytes, horigin, htwo, hkind]; rfl
    case cancelledReset => rw [payloadBytes, horigin, htwo, hkind]; rfl
    case pressed => rw [payloadBytes, hactions e he, hresult]; rfl
    case context => rw [payloadBytes, hops e he, hbit, hkind, hstate, htwo, htwo]; rfl
    case setting =>
      have hfield : ∀ f, settingBytes f = signed (if f.wide then 8 else 4) f.value ++ [if f.pending then 1 else 0] :=
        fun f => by rw [settingBytes, bytesOfInt_eq_map, hbit]
      rw [payloadBytes, funext hfield]
    case error => rw [payloadBytes, hcauses e he]; rfl
    case errorCursor => rw [payloadBytes, hcauses e he, htwo]
    case mismatch => rw [payloadBytes, htargets e he]; rfl
    case built => rw [payloadBytes, htargets e he, tableEventBytes, htwo, htwo, htwo]; rfl
    case tableCommitted => rw [payloadBytes, htargets e he, tableEventBytes, htwo]; rfl
    case activated => rw [payloadBytes, htargets e he]; rfl
    case verified => rw [payloadBytes, htargets e he]; rfl
    case damaged => rw [payloadBytes, htargets e he]; rfl
    case aborted => rw [payloadBytes, htargets e he]; rfl
    case link => rw [payloadBytes, hlocks st hst, hlinks cause hcause, hfaults fault hfault, htwo, htwo, htwo]

end Sys2Proof.Machine

/-! Segments and crosshair lines (R145, R151, R152, R155). The pixels of a segment are said by one function, the exact line
rounded half up at a step of the major axis; both halves of the model's definition are this function. -/

namespace Sys2Proof.Machine

/-! ## The exact line, rounded half up -/

/-- The exact line through `(ua, va)` and `(ub, vb)` at `u`. -/
def exactAt (ua va ub vb u : Int) : ℚ := va + (u - ua) * (vb - va) / (ub - ua)

/-- The line at `u`, rounded half up. -/
def lineAt (ua va ub vb u : Int) : Int := Int.floor (exactAt ua va ub vb u + 1 / 2)

section
variable {ua va ub vb u : Int}

theorem cast_sub_ne_zero (h : ub ≠ ua) : (ub : ℚ) - ua ≠ 0 := sub_ne_zero.mpr (Int.cast_injective.ne h)

theorem exactAt_symm (h : ub ≠ ua) : exactAt ua va ub vb u = exactAt ub vb ua va u := by
  have h1 := cast_sub_ne_zero h
  have h2 := cast_sub_ne_zero h.symm
  unfold exactAt
  field_simp
  ring

theorem lineAt_symm (h : ub ≠ ua) : lineAt ua va ub vb u = lineAt ub vb ua va u := by
  rw [lineAt, lineAt, exactAt_symm h]

/-- The quotient of the model, from the lower end of the major axis. -/
theorem lineAt_eq_div (h : ua < ub) :
    lineAt ua va ub vb u = va + (2 * (u - ua) * (vb - va) + (ub - ua)) / (2 * (ub - ua)) := by
  have hne : (ub : ℚ) - ua ≠ 0 := cast_sub_ne_zero h.ne'
  have hsum : exactAt ua va ub vb u + 1 / 2 =
      (va : ℚ) + ((2 * (u - ua) * (vb - va) + (ub - ua) : Int) : ℚ) / ((2 * (ub - ua) : Int) : ℚ) := by
    unfold exactAt
    push_cast
    field_simp
    ring
  rw [lineAt, hsum, Int.floor_intCast_add, floor_div_of_nonneg _ (by omega)]

theorem exactAt_start : exactAt ua va ub vb ua = va := by
  rw [exactAt, sub_self, zero_mul, zero_div, add_zero]

theorem floor_add_half (v : Int) : Int.floor ((v : ℚ) + 1 / 2) = v := by
  rw [Int.floor_intCast_add]
  norm_num

theorem lineAt_start : lineAt ua va ub vb ua = va := by rw [lineAt, exactAt_start, floor_add_half]

theorem lineAt_end (h : ub ≠ ua) : lineAt ua va ub vb ub = vb := by rw [lineAt_symm h, lineAt_start]

/-- Rounding half up moves a value by at most a half. -/
theorem abs_exactAt_sub_lineAt : |exactAt ua va ub vb u - lineAt ua va ub vb u| ≤ 1 / 2 := by
  have hlo := Int.floor_le (exactAt ua va ub vb u + 1 / 2)
  have hhi := Int.lt_floor_add_one (exactAt ua va ub vb u + 1 / 2)
  rw [lineAt, abs_le]
  constructor <;> linarith

/-- What lies between two whole numbers is rounded to between them. -/
theorem lineAt_mem {lo hi : Int} (hlo : (lo : ℚ) ≤ exactAt ua va ub vb u) (hhi : exactAt ua va ub vb u ≤ hi) :
    lo ≤ lineAt ua va ub vb u ∧ lineAt ua va ub vb u ≤ hi := by
  refine ⟨Int.le_floor.mpr (by linarith), Int.lt_add_one_iff.mp (Int.floor_lt.mpr ?_)⟩
  push_cast
  linarith

/-- The rounded line is within half a pixel of the exact one, in units of the cross product. -/
theorem lineAt_near (h : ub ≠ ua) :
    2 * ((u - ua) * (vb - va) - (lineAt ua va ub vb u - va) * (ub - ua)).natAbs ≤ (ub - ua).natAbs := by
  have hne := cast_sub_ne_zero h
  have hcross : ((((u - ua) * (vb - va) - (lineAt ua va ub vb u - va) * (ub - ua) : Int)) : ℚ) =
      (exactAt ua va ub vb u - lineAt ua va ub vb u) * (ub - ua) := by
    unfold exactAt
    push_cast
    field_simp
    ring
  have hbound : 2 * |(((u - ua) * (vb - va) - (lineAt ua va ub vb u - va) * (ub - ua) : Int) : ℚ)| ≤ |((ub - ua : Int) : ℚ)| := by
    rw [hcross, abs_mul]
    push_cast
    have hhalf := abs_exactAt_sub_lineAt (ua := ua) (va := va) (ub := ub) (vb := vb) (u := u)
    have hpos := abs_nonneg ((ub : ℚ) - ua)
    nlinarith
  have hint : 2 * |(u - ua) * (vb - va) - (lineAt ua va ub vb u - va) * (ub - ua)| ≤ |ub - ua| := by exact_mod_cast hbound
  rw [Int.abs_eq_natAbs, Int.abs_eq_natAbs] at hint
  exact_mod_cast hint

/-- On a major axis a step moves the line by no more than the step. -/
theorem abs_exactAt_sub_start (h : ub ≠ ua) (hmajor : (vb - va).natAbs ≤ (ub - ua).natAbs) :
    |exactAt ua va ub vb u - va| ≤ |((u - ua : Int) : ℚ)| := by
  have hpos : 0 < |((ub - ua : Int) : ℚ)| := abs_pos.mpr (by push_cast; exact cast_sub_ne_zero h)
  have hslope : |((vb - va : Int) : ℚ)| ≤ |((ub - ua : Int) : ℚ)| := by
    rw [← Int.cast_abs, ← Int.cast_abs, Int.abs_eq_natAbs, Int.abs_eq_natAbs]
    exact_mod_cast hmajor
  have hvalue : exactAt ua va ub vb u - va = ((u - ua : Int) : ℚ) * ((vb - va : Int) : ℚ) / ((ub - ua : Int) : ℚ) := by
    unfold exactAt
    push_cast
    ring
  rw [hvalue, abs_div, abs_mul, div_le_iff₀ hpos]
  exact mul_le_mul_of_nonneg_left hslope (abs_nonneg _)

theorem abs_lineAt_sub_start (h : ub ≠ ua) (hmajor : (vb - va).natAbs ≤ (ub - ua).natAbs) :
    (lineAt ua va ub vb u - va).natAbs ≤ (u - ua).natAbs := by
  obtain ⟨hlo, hhi⟩ := abs_le.mp (abs_exactAt_sub_start (u := u) h hmajor)
  rw [← Int.cast_abs] at hlo hhi
  obtain ⟨h1, h2⟩ := lineAt_mem (ua := ua) (va := va) (ub := ub) (vb := vb) (u := u) (lo := va - |u - ua|)
    (hi := va + |u - ua|) (by push_cast at hlo ⊢; linarith) (by push_cast at hhi ⊢; linarith)
  have habs : |u - ua| = (u - ua).natAbs := Int.abs_eq_natAbs _
  omega

/-- Between the ends the line stays between their other coordinates. -/
theorem lineAt_between (h : ub ≠ ua) (hlo : min ua ub ≤ u) (hhi : u ≤ max ua ub) :
    min va vb ≤ lineAt ua va ub vb u ∧ lineAt ua va ub vb u ≤ max va vb := by
  wlog hlt : ua < ub generalizing ua va ub vb
  · have hswap := this (ua := ub) (va := vb) (ub := ua) (vb := va) h.symm (by rwa [min_comm]) (by rwa [max_comm]) (by omega)
    rwa [← lineAt_symm h, min_comm, max_comm vb] at hswap
  rw [min_eq_left hlt.le] at hlo
  rw [max_eq_right hlt.le] at hhi
  have hpos : (0 : ℚ) < ub - ua := by exact_mod_cast sub_pos.mpr hlt
  have h0 : (0 : ℚ) ≤ u - ua := by exact_mod_cast sub_nonneg.mpr hlo
  have h1 : (u : ℚ) - ua ≤ ub - ua := by exact_mod_cast Int.sub_le_sub_right hhi ua
  have hs0 : 0 ≤ ((u : ℚ) - ua) / (ub - ua) := div_nonneg h0 hpos.le
  have hs1 : ((u : ℚ) - ua) / (ub - ua) ≤ 1 := (div_le_one hpos).mpr h1
  have hvalue : exactAt ua va ub vb u = va + ((u : ℚ) - ua) / (ub - ua) * (vb - va) := by
    unfold exactAt
    ring
  apply lineAt_mem
  · rw [hvalue, Int.cast_min]
    rcases le_total (va : ℚ) vb with hle | hle
    · rw [min_eq_left hle]
      nlinarith
    · rw [min_eq_right hle]
      nlinarith
  · rw [hvalue, Int.cast_max]
    rcases le_total (va : ℚ) vb with hle | hle
    · rw [max_eq_right hle]
      nlinarith
    · rw [max_eq_left hle]
      nlinarith

end

/-! ## Segments (R151) -/

section
variable {xa ya xb yb x y : Int}

theorem segmentPhase_point (hx : xb = xa) (hy : yb = ya) :
    segmentPhase xa ya xb yb x y = if x = xa ∧ y = ya then some 0 else none := by
  rw [segmentPhase, if_pos ⟨by omega, by omega⟩]

/-- A segment whose major axis is x. -/
theorem segmentPhase_x (hmajor : (yb - ya).natAbs ≤ (xb - xa).natAbs) (hne : xb ≠ xa) :
    segmentPhase xa ya xb yb x y =
      if min xa xb ≤ x ∧ x ≤ max xa xb ∧ y = lineAt xa ya xb yb x then some (x - xa).natAbs else none := by
  unfold segmentPhase
  dsimp only
  rw [if_neg (by omega), if_pos hmajor]
  by_cases hlt : xa < xb
  · simp only [if_pos hlt]
    rw [min_eq_left hlt.le, max_eq_right hlt.le, lineAt_eq_div hlt]
  · have hgt : xb < xa := by omega
    simp only [if_neg hlt]
    rw [min_eq_right hgt.le, max_eq_left hgt.le, lineAt_symm hne, lineAt_eq_div hgt]

/-- A segment whose major axis is y. -/
theorem segmentPhase_y (hmajor : (xb - xa).natAbs < (yb - ya).natAbs) :
    segmentPhase xa ya xb yb x y =
      if min ya yb ≤ y ∧ y ≤ max ya yb ∧ x = lineAt ya xa yb xb y then some (y - ya).natAbs else none := by
  unfold segmentPhase
  dsimp only
  rw [if_neg (by omega), if_neg (Nat.not_le.mpr hmajor)]
  by_cases hlt : ya < yb
  · simp only [if_pos hlt]
    rw [min_eq_left hlt.le, max_eq_right hlt.le, lineAt_eq_div hlt]
  · have hgt : yb < ya := by omega
    simp only [if_neg hlt]
    rw [min_eq_right hgt.le, max_eq_left hgt.le, lineAt_symm (by omega), lineAt_eq_div hgt]

/-- A segment is a point, or has x as its major axis, or has y. -/
theorem segment_cases (xa ya xb yb : Int) : xb = xa ∧ yb = ya ∨ (yb - ya).natAbs ≤ (xb - xa).natAbs ∧ xb ≠ xa ∨
    (xb - xa).natAbs < (yb - ya).natAbs := by omega

theorem isSome_ite_some {α : Type} {p : Prop} [Decidable p] {a : α} : (if p then some a else none).isSome = decide p := by
  by_cases h : p
  · rw [if_pos h, decide_eq_true h]; rfl
  · rw [if_neg h, decide_eq_false h]; rfl

theorem segmentPhase_symm : (segmentPhase xa ya xb yb x y).isSome = (segmentPhase xb yb xa ya x y).isSome := by
  rcases segment_cases xa ya xb yb with ⟨hx, hy⟩ | ⟨hmajor, hne⟩ | hmajor
  · rw [hx, hy]
  · rw [segmentPhase_x hmajor hne, segmentPhase_x (by omega) hne.symm, isSome_ite_some, isSome_ite_some, min_comm,
      max_comm, lineAt_symm hne]
  · rw [segmentPhase_y hmajor, segmentPhase_y (by omega), isSome_ite_some, isSome_ite_some, min_comm, max_comm,
      lineAt_symm (by omega)]

theorem segmentPhase_start : segmentPhase xa ya xb yb xa ya = some 0 := by
  rcases segment_cases xa ya xb yb with ⟨hx, hy⟩ | ⟨hmajor, hne⟩ | hmajor
  · rw [segmentPhase_point hx hy, if_pos ⟨rfl, rfl⟩]
  · rw [segmentPhase_x hmajor hne, if_pos ⟨min_le_left .., le_max_left .., lineAt_start.symm⟩, sub_self]
    rfl
  · rw [segmentPhase_y hmajor, if_pos ⟨min_le_left .., le_max_left .., lineAt_start.symm⟩, sub_self]
    rfl

theorem segmentPhase_end :
    segmentPhase xa ya xb yb xb yb = some (max (xb - xa).natAbs (yb - ya).natAbs) := by
  rcases segment_cases xa ya xb yb with ⟨rfl, rfl⟩ | ⟨hmajor, hne⟩ | hmajor
  · rw [segmentPhase_point rfl rfl, if_pos ⟨rfl, rfl⟩, sub_self, sub_self]
    rfl
  · rw [segmentPhase_x hmajor hne, if_pos ⟨min_le_right .., le_max_right .., (lineAt_end hne).symm⟩, max_eq_left hmajor]
  · rw [segmentPhase_y hmajor, if_pos ⟨min_le_right .., le_max_right .., (lineAt_end (by omega)).symm⟩,
      max_eq_right hmajor.le]

/-- A lit pixel of a segment: its phase, the box, and half a pixel of the exact line. -/
theorem segmentPhase_bounds {t : Nat} (h : segmentPhase xa ya xb yb x y = some t) :
    t = max (x - xa).natAbs (y - ya).natAbs ∧
    min xa xb ≤ x ∧ x ≤ max xa xb ∧ min ya yb ≤ y ∧ y ≤ max ya yb ∧
    2 * ((x - xa) * (yb - ya) - (y - ya) * (xb - xa)).natAbs ≤ max (xb - xa).natAbs (yb - ya).natAbs := by
  rcases segment_cases xa ya xb yb with ⟨rfl, rfl⟩ | ⟨hmajor, hne⟩ | hmajor
  · rw [segmentPhase_point rfl rfl] at h
    split at h
    next hxy =>
      obtain ⟨rfl, rfl⟩ := hxy
      cases h
      simp
    next => cases h
  · rw [segmentPhase_x hmajor hne] at h
    split at h
    next hlit =>
      obtain ⟨hlo, hhi, rfl⟩ := hlit
      obtain ⟨hbelow, habove⟩ := lineAt_between hne hlo hhi
      refine ⟨?_, hlo, hhi, hbelow, habove, (lineAt_near hne).trans (le_max_left ..)⟩
      rw [max_eq_left (abs_lineAt_sub_start hne hmajor)]
      exact (Option.some.inj h).symm
    next => cases h
  · have hne : yb ≠ ya := by omega
    rw [segmentPhase_y hmajor] at h
    split at h
    next hlit =>
      obtain ⟨hlo, hhi, rfl⟩ := hlit
      obtain ⟨hbelow, habove⟩ := lineAt_between hne hlo hhi
      refine ⟨?_, hbelow, habove, hlo, hhi, ?_⟩
      · rw [max_eq_right (abs_lineAt_sub_start hne hmajor.le)]
        exact (Option.some.inj h).symm
      · have hnear := lineAt_near (ua := ya) (va := xa) (ub := yb) (vb := xb) (u := y) hne
        rw [← Int.natAbs_neg, neg_sub] at hnear
        exact hnear.trans (le_max_right ..)
    next => cases h

end

/-! ## Dashes and extents (R145, R152, R155) -/

theorem dashLit_iff (st : Style) (t : Nat) : dashLit st t = true ↔
    st.dashPeriod ≤ 1 ∨ st.dashPeriod ≤ st.dashOn ∨ (t : Int) % st.dashPeriod < st.dashOn := by
  rw [dashLit, Bool.or_eq_true, Bool.or_eq_true, decide_eq_true_eq, decide_eq_true_eq, decide_eq_true_eq, or_assoc]

/-- A code of 1 where a condition holds and 0 elsewhere. -/
theorem code_of_iff {p q : Prop} [Decidable q] {n : Nat} (hcode : n = if q then 1 else 0) (h : p ↔ q) :
    (p → n = 1) ∧ (¬p → n = 0) :=
  ⟨fun hp => hcode.trans (if_pos (h.mp hp)), fun hp => hcode.trans (if_neg fun hq => hp (h.mpr hq))⟩

section
variable (l : FrameLatch) (c : OverlayClass) (x y : Int)

theorem litCode_segment (xa ya xb yb : Int) : litCode l ⟨c, .segment xa ya xb yb⟩ x y =
    if (segmentPhase xa ya xb yb x y).any (dashLit (latchStyle l c)) then 1 else 0 := by
  unfold litCode
  dsimp only
  cases segmentPhase xa ya xb yb x y with
  | none => rfl
  | some t => rfl

theorem litCode_horizontal (sx sy : Int) : litCode l ⟨c, .horizontal sx sy⟩ x y =
    if (y = sy ∧ 0 ≤ x ∧ x < l.width) ∧ dashLit (latchStyle l c) (x - sx).natAbs = true then 1 else 0 := by
  rw [ite_and]
  rfl

theorem litCode_vertical (sx sy : Int) : litCode l ⟨c, .vertical sx sy⟩ x y =
    if (x = sx ∧ 0 ≤ y ∧ y < l.height) ∧ dashLit (latchStyle l c) (y - sy).natAbs = true then 1 else 0 := by
  rw [ite_and]
  rfl

end

/-- Settles O51. -/
theorem segmentsAreLitFromEitherEnd : Obligations.SegmentsAreLitFromEitherEnd := by
  refine ⟨fun xa ya xb yb x y => ⟨segmentPhase_symm, segmentPhase_start, segmentPhase_end, fun t => segmentPhase_bounds,
    fun hmajor hne => ?_, fun hmajor => ?_, fun hx hy => ?_⟩, fun l c xa ya xb yb sx sy x y => ?_⟩
  · rw [segmentPhase_x hmajor hne, isSome_ite_some, decide_eq_true_eq]
    rfl
  · rw [segmentPhase_y hmajor, isSome_ite_some, decide_eq_true_eq]
    rfl
  · rw [segmentPhase_point hx hy, isSome_ite_some, decide_eq_true_eq]
  · intro style dashed lit
    have hstyle : latchStyle l c = style := by cases c <;> rfl
    have hdashed : ∀ t, dashLit (latchStyle l c) t = true ↔ dashed t := fun t => by
      rw [dashLit_iff, hstyle]
    refine ⟨?_, ?_, ?_, ?_, ?_, ?_⟩
    · refine code_of_iff (litCode_segment ..) ?_
      rw [Option.any_eq_true]
      exact exists_congr fun t => and_congr_right fun _ => (hdashed t).symm
    · refine code_of_iff (litCode_horizontal ..) ?_
      rw [hdashed, and_assoc, and_assoc]
    · refine code_of_iff (litCode_vertical ..) ?_
      rw [hdashed, and_assoc, and_assoc]
    · show (decide (min ya yb ≤ y) && decide (y ≤ max ya yb)) = true ↔ _
      rw [Bool.and_eq_true, decide_eq_true_eq, decide_eq_true_eq]
    · exact beq_iff_eq
    · show (decide (0 ≤ y) && decide (y < (l.height : Int))) = true ↔ _
      rw [Bool.and_eq_true, decide_eq_true_eq, decide_eq_true_eq]

end Sys2Proof.Machine

/-! Circles and glyph placements (R50, R145, R153, R154). -/

namespace Sys2Proof.Machine

/-! ## The radius (R50) -/

/-- The radius is the largest whole number whose ring starts no further out than the point. -/
theorem circleRadius_spec {d : Nat} (h : 0 < d) :
    (2 * (circleRadius d : Int) - 1) * (2 * circleRadius d - 1) ≤ 4 * d ∧
    (4 * d : Int) < (2 * (circleRadius d : Int) + 1) * (2 * circleRadius d + 1) ∧ 1 ≤ circleRadius d := by
  obtain ⟨hlo, hhi⟩ := isqrt_spec (4 * d)
  have hroot : 2 ≤ isqrt (4 * d) := by
    by_contra hlt
    have hsmall : (isqrt (4 * d) + 1) * (isqrt (4 * d) + 1) ≤ 2 * 2 := Nat.mul_le_mul (by omega) (by omega)
    omega
  have hradius : circleRadius d = (isqrt (4 * d) + 1) / 2 := if_neg (by omega)
  have hbelow : 2 * (circleRadius d : Int) - 1 ≤ isqrt (4 * d) := by omega
  have habove : (isqrt (4 * d) : Int) + 1 ≤ 2 * circleRadius d + 1 := by omega
  have hlo' : (isqrt (4 * d) : Int) * isqrt (4 * d) ≤ 4 * d := by exact_mod_cast hlo
  have hhi' : (4 * d : Int) < ((isqrt (4 * d) : Int) + 1) * (isqrt (4 * d) + 1) := by exact_mod_cast hhi
  exact ⟨(mul_self_le_mul_self (by omega) hbelow).trans hlo', hhi'.trans_le (mul_self_le_mul_self (by omega) habove),
    by omega⟩

/-! ## The ring (R153) -/

theorem circleLit_iff (cx cy : Int) (r : Nat) (x y : Int) : circleLit cx cy r x y = true ↔
    (2 * (r : Int) - 1) ^ 2 ≤ 4 * ((x - cx) ^ 2 + (y - cy) ^ 2) ∧
      4 * ((x - cx) ^ 2 + (y - cy) ^ 2) < (2 * (r : Int) + 1) ^ 2 := by
  rw [circleLit, Bool.and_eq_true, decide_eq_true_eq, decide_eq_true_eq, sq, sq, sq, sq]

theorem dist2_pos {c f : Int × Int} (h : c ≠ f) : 0 < dist2 c f := by
  refine lt_of_le_of_ne (dist2_nonneg c f) fun hzero => h ?_
  have hx := mul_self_nonneg (f.1 - c.1)
  have hy := mul_self_nonneg (f.2 - c.2)
  rw [dist2] at hzero
  have hx0 : f.1 - c.1 = 0 := mul_self_eq_zero.mp (by omega)
  have hy0 : f.2 - c.2 = 0 := mul_self_eq_zero.mp (by omega)
  exact Prod.ext (by omega) (by omega)

/-- The ring of a rubber-band circle passes through its free point. -/
theorem circleLit_free {c f : Int × Int} (h : c ≠ f) :
    circleLit c.1 c.2 (circleRadius (dist2 c f).toNat) f.1 f.2 = true := by
  have hpos := dist2_pos h
  obtain ⟨hlo, hhi, -⟩ := circleRadius_spec (d := (dist2 c f).toNat) (by omega)
  rw [Int.toNat_of_nonneg hpos.le] at hlo hhi
  rw [circleLit, Bool.and_eq_true, decide_eq_true_eq, decide_eq_true_eq]
  exact ⟨hlo, hhi⟩

/-- A row within the radius of the centre's holds a pixel of the ring. -/
theorem exists_circleLit (cx : Int) {cy y : Int} {r : Nat} (hr : 1 ≤ r) (hlo : cy - r ≤ y) (hhi : y ≤ cy + r) :
    ∃ x, circleLit cx cy r x y = true := by
  have hsquare : (y - cy) ^ 2 ≤ (r : Int) ^ 2 := sq_le_sq' (by omega) (by omega)
  -- The widest step whose square leaves the point inside the ring's outer edge.
  obtain ⟨m, hm⟩ : ∃ m : Nat, (m : Int) = r ^ 2 + r - (y - cy) ^ 2 := ⟨((r : Int) ^ 2 + r - (y - cy) ^ 2).toNat, by omega⟩
  obtain ⟨hbelow, habove⟩ := isqrt_spec m
  have hbelow' : (isqrt m : Int) ^ 2 ≤ r ^ 2 + r - (y - cy) ^ 2 := by rw [← hm, sq]; exact_mod_cast hbelow
  have habove' : (r : Int) ^ 2 + r - (y - cy) ^ 2 < ((isqrt m : Int) + 1) ^ 2 := by rw [← hm, sq]; exact_mod_cast habove
  have hnonneg := sq_nonneg (y - cy)
  have hroot : (isqrt m : Int) ≤ r := by
    by_contra hgt
    have hbig : ((r : Int) + 1) ^ 2 ≤ (isqrt m : Int) ^ 2 := pow_le_pow_left₀ (by omega) (by omega) 2
    nlinarith
  refine ⟨cx + isqrt m, (circleLit_iff ..).mpr ?_⟩
  rw [add_sub_cancel_left]
  refine ⟨?_, by nlinarith⟩
  rcases hroot.lt_or_eq with hlt | heq
  · nlinarith
  · rw [heq]
    nlinarith

theorem circleLit_row {cx cy x y : Int} {r : Nat} (h : circleLit cx cy r x y = true) : cy - r ≤ y ∧ y ≤ cy + r := by
  obtain ⟨-, hlt⟩ := (circleLit_iff ..).mp h
  have hsquare : (y - cy) ^ 2 < ((r : Int) + 1) ^ 2 := by nlinarith [sq_nonneg (x - cx), Int.natCast_nonneg r]
  obtain ⟨h1, h2⟩ := abs_lt.mp (abs_lt_of_sq_lt_sq hsquare (by omega))
  omega

theorem litCode_circle (l : FrameLatch) (c : OverlayClass) (cx cy x y : Int) (r : Nat) :
    litCode l ⟨c, .circle cx cy r⟩ x y = if circleLit cx cy r x y = true then 1 else 0 := rfl

/-! ## Glyph placements (R154, R177) -/

/-- A two-bit field by its bits. -/
theorem extract_two_bits (v : BitVec 64) :
    (v.extractLsb' 0 2).toNat = (if v.getLsbD 1 then 2 else 0) + (if v.getLsbD 0 then 1 else 0) := by
  have hbits : (v.extractLsb' 0 2) = BitVec.ofNat 2 ((if v.getLsbD 1 then 2 else 0) + (if v.getLsbD 0 then 1 else 0)) := by
    refine BitVec.eq_of_getLsbD_eq fun i hi => ?_
    rw [BitVec.getLsbD_extractLsb']
    interval_cases i <;> cases v.getLsbD 1 <;> cases v.getLsbD 0 <;> simp
  rw [hbits, BitVec.toNat_ofNat]
  cases v.getLsbD 1 <;> cases v.getLsbD 0 <;> rfl

/-- The code of a cell of a glyph, by the two bits of its row. -/
theorem glyphCode_of_row {g : Glyph} {i j : Nat} (hi : i ≤ 31) {row : BitVec 64} (hrow : g.rows[j]? = some row) :
    glyphCode g i j = (if row.getLsbD (63 - 2 * i) then 2 else 0) + (if row.getLsbD (62 - 2 * i) then 1 else 0) := by
  have hget : g.rows.getD j 0 = row := by rw [List.getD_eq_getElem?_getD, hrow]; rfl
  rw [glyphCode, hget, extract_two_bits, BitVec.getLsbD_ushiftRight, BitVec.getLsbD_ushiftRight,
    show 62 - 2 * i + 1 = 63 - 2 * i by omega]
  rfl

theorem shapeGlyph_of_getElem? {glyphs : List Glyph} {n : Nat} {g : Glyph} (h : glyphs[n]? = some g) :
    shapeGlyph glyphs n = g := by
  rw [shapeGlyph, List.getD_eq_getElem?_getD, h]
  rfl

/-- Settles O52. -/
theorem circlesPassThroughTheFreePoint : Obligations.CirclesPassThroughTheFreePoint := by
  refine ⟨fun d => circleRadius_spec, rfl, fun c f => circleLit_free, fun cx cy y r hr =>
    ⟨fun ⟨x, h⟩ => circleLit_row h, fun ⟨hlo, hhi⟩ => exists_circleLit cx hr hlo hhi⟩, fun l c cx cy x y r => ?_,
    fun l c n g px py x y hg => ?_⟩
  · intro ring
    obtain ⟨hlit, hdark⟩ := code_of_iff (litCode_circle l c cx cy x y r) (p := ring) (circleLit_iff ..).symm
    refine ⟨hlit, hdark, ?_⟩
    show (decide (cy - (r : Int) ≤ y) && decide (y ≤ cy + (r : Int))) = true ↔ _
    rw [Bool.and_eq_true, decide_eq_true_eq, decide_eq_true_eq]
  · intro gx gy
    have hglyph := shapeGlyph_of_getElem? hg
    have hcode : litCode l ⟨c, .glyph n px py⟩ x y =
        if 0 ≤ gx ∧ gx ≤ 31 ∧ 0 ≤ gy ∧ gy ≤ 31 then glyphCode g gx.toNat gy.toNat else 0 :=
      congrArg (glyphLit · px py x y) hglyph
    refine ⟨fun hx0 hx1 hy0 hy1 row hrow => ?_, fun hout => ?_, ?_⟩
    · rw [hcode, if_pos ⟨hx0, hx1, hy0, hy1⟩, glyphCode_of_row (by omega) hrow]
    · rw [hcode, if_neg hout]
    · have hline : onLine l ⟨c, .glyph n px py⟩ y = (decide (py - (g.hy : Int) ≤ y) && decide (y ≤ py - (g.hy : Int) + 31)) :=
        congrArg (fun g : Glyph => decide (py - (g.hy : Int) ≤ y) && decide (y ≤ py - (g.hy : Int) + 31)) hglyph
      rw [hline, Bool.and_eq_true, decide_eq_true_eq, decide_eq_true_eq]
      show _ ↔ 0 ≤ y - (py - g.hy) ∧ y - (py - g.hy) ≤ 31
      omega

end Sys2Proof.Machine

/-! The display list and the answer for a pixel (R38, R51, R142, R145 to R150, R156 to R159). -/

namespace Sys2Proof.Machine

/-! ## The answer (R156 to R158) -/

/-- The classes in their order of priority. -/
def classOrder : List OverlayClass := [.cursor, .marker, .rubber, .ghost]

/-- The place of a class in that order. -/
def classRank : OverlayClass → Nat
  | .cursor => 0
  | .marker => 1
  | .rubber => 2
  | .ghost => 3

theorem mem_classOrder (c : OverlayClass) : c ∈ classOrder := by cases c <;> decide

theorem classOrder_sorted : classOrder.Pairwise fun a b => classRank a ≤ classRank b := by decide

section
variable {o : Ovc} {x y : Int}

theorem lights_iff (p : Primitive) (c : OverlayClass) : (p.cls == c && litCode o.latch p x y != 0) = true ↔
    p.cls = c ∧ litCode o.latch p x y ≠ 0 := by
  rw [Bool.and_eq_true, beq_iff_eq, bne_iff_ne]

/-- The first primitive of a class to light the pixel. -/
def firstLit (o : Ovc) (x y : Int) (c : OverlayClass) : Option (Primitive × Nat) :=
  ((selected o.latch o.display y).find? fun p => p.cls == c && litCode o.latch p x y != 0).map
    fun p => (p, litCode o.latch p x y)

theorem winner_eq (o : Ovc) (x y : Int) : winner o x y = classOrder.findSome? (firstLit o x y) := rfl

theorem firstLit_eq_none_iff (c : OverlayClass) : firstLit o x y c = none ↔
    ∀ p ∈ selected o.latch o.display y, p.cls = c → litCode o.latch p x y = 0 := by
  rw [firstLit, Option.map_eq_none_iff, List.find?_eq_none]
  refine forall₂_congr fun p _ => ?_
  rw [lights_iff, not_and, not_not]

theorem winner_eq_none_iff : winner o x y = none ↔
    ∀ p ∈ selected o.latch o.display y, litCode o.latch p x y = 0 := by
  rw [winner_eq, List.findSome?_eq_none_iff]
  constructor
  · exact fun h p hp => (firstLit_eq_none_iff p.cls).mp (h p.cls (mem_classOrder _)) p hp rfl
  · exact fun h c _ => (firstLit_eq_none_iff c).mpr fun p hp _ => h p hp

/-- The winner lights the pixel, is of the earliest class that does and is the first of its class. -/
theorem winner_eq_some {p : Primitive} {code : Nat} (h : winner o x y = some (p, code)) :
    code = litCode o.latch p x y ∧ ∃ before after, selected o.latch o.display y = before ++ p :: after ∧
      litCode o.latch p x y ≠ 0 ∧
      (∀ q ∈ selected o.latch o.display y, litCode o.latch q x y ≠ 0 → classRank p.cls ≤ classRank q.cls) ∧
      (∀ q ∈ before, litCode o.latch q x y ≠ 0 → q.cls ≠ p.cls) := by
  rw [winner_eq, List.findSome?_eq_some_iff] at h
  obtain ⟨earlier, c, later, horder, hfirst, hnone⟩ := h
  obtain ⟨p', hfind, heq⟩ := Option.map_eq_some_iff.mp hfirst
  obtain ⟨rfl, rfl⟩ := Prod.mk.inj heq
  rw [List.find?_eq_some_iff_append] at hfind
  obtain ⟨hp, before, after, hpart, hbefore⟩ := hfind
  obtain ⟨rfl, hlit⟩ := (lights_iff p' c).mp hp
  refine ⟨rfl, before, after, hpart, hlit, fun q hq hqlit => ?_, fun q hq hqlit hcls => ?_⟩
  · have hmem : q.cls ∈ earlier ++ p'.cls :: later := horder ▸ mem_classOrder q.cls
    rcases List.mem_append.mp hmem with he | hl
    · exact absurd ((firstLit_eq_none_iff _).mp (hnone _ he) q hq rfl) hqlit
    · rcases List.mem_cons.mp hl with heq | hl
      · rw [heq]
      · have hsorted := classOrder_sorted
        rw [horder, List.pairwise_append] at hsorted
        obtain ⟨-, htail, -⟩ := hsorted
        exact (List.pairwise_cons.mp htail).1 q.cls hl
  · have hno := hbefore q hq
    rw [(lights_iff q p'.cls).mpr ⟨hcls, hqlit⟩] at hno
    cases hno

theorem answer_none (h : winner o x y = none) : answer o x y = .none := by rw [answer, h]

theorem answer_some {p : Primitive} {code : Nat} (h : winner o x y = some (p, code)) : answer o x y =
    if (latchStyle o.latch p.cls).op ≠ 0 ∨ code = 3 then .invert
    else if code = 2 then .color (BitVec.ofInt 24 (latchStyle o.latch p.cls).colorB)
    else .color (BitVec.ofInt 24 (latchStyle o.latch p.cls).colorA) := by
  rw [answer, h, ite_or]
  rfl

end

/-! ## The list by classes (R142, R145) -/

/-- The shapes of a class as the latch forms them. -/
def classShapes (l : FrameLatch) : OverlayClass → List Shape
  | .cursor => cursorShapes l
  | .marker => markerShapes l
  | .rubber => rubberShapes l
  | .ghost => ghostShapes l

/-- The shapes of a class, none where it is withheld. -/
def shownShapes (l : FrameLatch) (forced : Bool) (c : OverlayClass) : List Shape :=
  if withheld l forced c then [] else classShapes l c

theorem classPrimitives_eq (l : FrameLatch) (forced : Bool) (c : OverlayClass) :
    classPrimitives l forced c (classShapes l c) = (shownShapes l forced c).map fun s => ⟨c, s⟩ := by
  unfold classPrimitives shownShapes
  split <;> rfl

theorem displayList_eq (l : FrameLatch) (forced : Bool) :
    displayList l forced = classOrder.flatMap fun c => (shownShapes l forced c).map fun s => ⟨c, s⟩ := by
  simp only [← classPrimitives_eq, classOrder, List.flatMap_cons, List.flatMap_nil, List.append_nil, ← List.append_assoc]
  rfl

theorem filter_class_map (shapes : List Shape) (c d : OverlayClass) :
    (((shapes.map fun s => (⟨d, s⟩ : Primitive)).filter fun p => decide (p.cls = c)).map Primitive.shape) =
      if d = c then shapes else [] := by
  rw [List.filter_map, List.map_map]
  split
  next h =>
    have hall : shapes.filter ((fun p : Primitive => decide (p.cls = c)) ∘ fun s => ⟨d, s⟩) = shapes :=
      List.filter_eq_self.mpr fun s _ => decide_eq_true h
    rw [hall]
    exact List.map_id _
  next h =>
    have hnone : shapes.filter ((fun p : Primitive => decide (p.cls = c)) ∘ fun s => ⟨d, s⟩) = [] :=
      List.filter_eq_nil_iff.mpr fun s _ hs => h (of_decide_eq_true hs)
    rw [hnone]
    rfl

/-- The shapes of a class in the display list. -/
theorem shapes_displayList (l : FrameLatch) (forced : Bool) (c : OverlayClass) :
    ((displayList l forced).filter fun p => decide (p.cls = c)).map Primitive.shape = shownShapes l forced c := by
  rw [displayList_eq, List.filter_flatMap, List.map_flatMap]
  simp only [filter_class_map, classOrder, List.flatMap_cons, List.flatMap_nil]
  cases c <;> simp

theorem withheld_iff (l : FrameLatch) (forced : Bool) (c : OverlayClass) : withheld l forced c = true ↔
    (latchStyle l c).op = 2 ∨ (latchStyle l c).blink ≠ 0 ∧ l.blinkOn ≤ l.phase ∨ c = .cursor ∧ forced = true := by
  rw [withheld, Bool.or_eq_true, Bool.or_eq_true, Bool.and_eq_true, Bool.and_eq_true, beq_iff_eq, bne_iff_ne,
    decide_eq_true_eq, beq_iff_eq, or_assoc]

/-! ## Cursor and marker (R147, R148) -/

section
variable {l : FrameLatch} {p : Point}

theorem project_valid (v : View) (h : pointValid p = true) :
    project v p = some (screenX v p.x.value, screenY v p.y.value) := if_pos h

theorem project_invalid (v : View) (h : pointValid p = false) : project v p = none := if_neg (ne_true_of_eq_false h)

theorem cursorShapes_none (h : l.shown.proximity = false ∨
    pointValid l.shown.point = false ∧ pointValid l.shown.raw = false) : cursorShapes l = [] := by
  rw [cursorShapes]
  rcases h with h | ⟨hpoint, hraw⟩
  · rw [h]
    rfl
  · rw [cursorPoint, hpoint, hraw]
    exact ite_self _

theorem cursorShapes_at (hprox : l.shown.proximity = true) (h : cursorPoint l.shown = some p) (hp : pointValid p = true) :
    cursorShapes l = .glyph l.cursorGlyph.toNat (screenX l.view p.x.value) (screenY l.view p.y.value) ::
      (if l.crosshair = 0 then [] else [.horizontal (screenX l.view p.x.value) (screenY l.view p.y.value),
        .vertical (screenX l.view p.x.value) (screenY l.view p.y.value)]) := by
  rw [cursorShapes, if_pos hprox, h, Option.bind_some, project_valid _ hp]
  by_cases hcross : l.crosshair = 0
  · simp only [hcross, ne_eq, not_true_eq_false, if_false, if_true]
  · simp only [hcross, ne_eq, not_false_eq_true, if_true, if_false]

theorem markerShapes_eq {glyph : Int} (h : markerCode l = glyph) : markerShapes l =
    if glyph < 16 ∧ pointValid l.shown.point = true then
      [.glyph glyph.toNat (screenX l.view l.shown.point.x.value) (screenY l.view l.shown.point.y.value)] else [] := by
  rw [markerShapes, h]
  cases hp : pointValid l.shown.point with
  | true =>
    rw [project_valid _ hp]
    simp only [and_true]
  | false =>
    rw [project_invalid _ hp]
    simp only [Bool.false_eq_true, and_false, if_false, ite_self]

theorem markerCode_object {o : ObjectPart} (hsource : l.shown.source = .object) (hobject : l.shown.object = some o) :
    markerCode l = l.markers.getD (snapKindCode o.kind) 16 := by rw [markerCode, hsource, hobject]

theorem markerCode_grid (hsource : l.shown.source = .grid) : markerCode l = l.markers.getD 7 16 := by
  rw [markerCode, hsource]

theorem markerCode_constrained (hsource : l.shown.source = .constrained) : markerCode l = l.markers.getD 8 16 := by
  rw [markerCode, hsource]

/-- The marker of a result that names a MARKERS field. -/
theorem markerShapes_of_field {field : Nat} (hcode : markerCode l = l.markers.getD field 16) {glyph : Int}
    (h : l.markers[field]? = some glyph) : markerShapes l =
      if glyph < 16 ∧ pointValid l.shown.point = true then
        [.glyph glyph.toNat (screenX l.view l.shown.point.x.value) (screenY l.view l.shown.point.y.value)] else [] := by
  rw [List.getD_eq_getElem?_getD, h] at hcode
  exact markerShapes_eq hcode

theorem markerShapes_raw (h : l.shown.source = .raw) : markerShapes l = [] := by
  have hcode : markerCode l = 16 := by rw [markerCode, h]
  rw [markerShapes_eq hcode]
  exact if_neg fun ⟨hlt, _⟩ => absurd hlt (by decide)

end

/-! ## Rubber band (R149) -/

/-- The segment between the screen positions of two points. -/
def segmentBetween (v : View) (p q : Point) : Shape :=
  .segment (screenX v p.x.value) (screenY v p.y.value) (screenX v q.x.value) (screenY v q.y.value)

section
variable {v : View} {p q : Point}

theorem segmentOf_valid (hp : pointValid p = true) (hq : pointValid q = true) :
    segmentOf v p q = [segmentBetween v p q] := by
  rw [segmentOf, project_valid _ hp, project_valid _ hq]
  rfl

theorem segmentOf_invalid (h : pointValid p = false ∨ pointValid q = false) : segmentOf v p q = [] := by
  unfold segmentOf
  rcases h with h | h
  · rw [project_invalid _ h]
  · rw [project_invalid _ h]
    split
    next hnone => cases hnone
    next => rfl

theorem pathSegments_valid {list : List Point} (h : ∀ p ∈ list, pointValid p = true) :
    pathSegments v list = (list.zip (list.drop 1)).map fun e => segmentBetween v e.1 e.2 := by
  induction list with
  | nil => rfl
  | cons p rest ih =>
    cases rest with
    | nil => rfl
    | cons q rest =>
      obtain ⟨hp, htail⟩ := List.forall_mem_cons.mp h
      rw [pathSegments, segmentOf_valid hp (htail q List.mem_cons_self), ih htail]
      rfl

/-- A shape list drawn where the free point is VALID. -/
def drawnAt (free : Point) (list : List Shape) : List Shape := if pointValid free then list else []

theorem segmentOf_to_free (hp : pointValid p = true) (free : Point) :
    segmentOf v p free = drawnAt free [segmentBetween v p free] := by
  cases hfree : pointValid free with
  | true => rw [segmentOf_valid hp hfree, drawnAt, if_pos hfree]
  | false => rw [segmentOf_invalid (.inr hfree), drawnAt, if_neg (ne_true_of_eq_false hfree)]

theorem segmentOf_from_free (hp : pointValid p = true) (free : Point) :
    segmentOf v free p = drawnAt free [segmentBetween v free p] := by
  cases hfree : pointValid free with
  | true => rw [segmentOf_valid hfree hp, drawnAt, if_pos hfree]
  | false => rw [segmentOf_invalid (.inl hfree), drawnAt, if_neg (ne_true_of_eq_false hfree)]

theorem drawnAt_append (free : Point) (a b : List Shape) : drawnAt free a ++ drawnAt free b = drawnAt free (a ++ b) := by
  unfold drawnAt
  split <;> rfl

theorem boxOf_eq (hp : pointValid p = true) (free : Point) : boxOf v p free = drawnAt free
    [.segment (screenX v p.x.value) (screenY v p.y.value) (screenX v free.x.value) (screenY v p.y.value),
     .segment (screenX v free.x.value) (screenY v p.y.value) (screenX v free.x.value) (screenY v free.y.value),
     .segment (screenX v free.x.value) (screenY v free.y.value) (screenX v p.x.value) (screenY v free.y.value),
     .segment (screenX v p.x.value) (screenY v free.y.value) (screenX v p.x.value) (screenY v p.y.value)] := by
  rw [boxOf, project_valid _ hp]
  cases hfree : pointValid free with
  | true => rw [project_valid _ hfree, drawnAt, if_pos hfree]
  | false => rw [project_invalid _ hfree, drawnAt, if_neg (ne_true_of_eq_false hfree)]

theorem circleOf_eq (hp : pointValid p = true) (free : Point) : circleOf v p free =
    let r := circleRadius ((screenX v free.x.value - screenX v p.x.value) ^ 2 +
      (screenY v free.y.value - screenY v p.y.value) ^ 2).toNat
    drawnAt free (if r = 0 then [] else [.circle (screenX v p.x.value) (screenY v p.y.value) r]) := by
  rw [circleOf, project_valid _ hp]
  cases hfree : pointValid free with
  | true =>
    rw [project_valid _ hfree]
    dsimp only
    rw [drawnAt, if_pos hfree, dist2, sq, sq]
  | false =>
    rw [project_invalid _ hfree]
    dsimp only
    rw [drawnAt, if_neg (ne_true_of_eq_false hfree)]

end

theorem rubberShapes_idle {l : FrameLatch} (h : l.gestureState ≠ .tracking) : rubberShapes l = [] := if_neg h

theorem rubberShapes_tracking {l : FrameLatch} {v0 last : Point} (htracking : l.gestureState = .tracking)
    (hvalid : ∀ v ∈ l.vertices, pointValid v = true) (hhead : l.vertices.head? = some v0)
    (hlast : l.vertices.getLast? = some last) : rubberShapes l =
      let free := l.shown.point
      let sx (p : Point) : Int := screenX l.view p.x.value
      let sy (p : Point) : Int := screenY l.view p.y.value
      match l.gestureKind with
      | .point => []
      | .line => drawnAt free [segmentBetween l.view v0 free]
      | .chain => (l.vertices.zip (l.vertices.drop 1)).map (fun e => segmentBetween l.view e.1 e.2) ++
          drawnAt free (segmentBetween l.view last free :: if l.close then [segmentBetween l.view free v0] else [])
      | .rect => drawnAt free [.segment (sx v0) (sy v0) (sx free) (sy v0), .segment (sx free) (sy v0) (sx free) (sy free),
          .segment (sx free) (sy free) (sx v0) (sy free), .segment (sx v0) (sy free) (sx v0) (sy v0)]
      | .circle =>
        let r := circleRadius ((sx free - sx v0) ^ 2 + (sy free - sy v0) ^ 2).toNat
        drawnAt free (if r = 0 then [] else [.circle (sx v0) (sy v0) r])
      | .move => [] := by
  have hv0 : pointValid v0 = true := hvalid v0 (List.mem_of_mem_head? hhead)
  have hvlast : pointValid last = true := hvalid last (List.mem_of_getLast? hlast)
  rw [rubberShapes, if_pos htracking, hhead, hlast]
  cases l.gestureKind with
  | point => rfl
  | line => exact segmentOf_to_free hv0 _
  | chain =>
    dsimp only
    rw [pathSegments_valid hvalid, segmentOf_to_free hvlast, List.append_assoc]
    cases l.close with
    | true => exact congrArg _ ((congrArg _ (segmentOf_from_free hv0 _)).trans (drawnAt_append _ _ _))
    | false => exact congrArg _ (List.append_nil _)
  | rect => exact boxOf_eq hv0 _
  | circle => exact circleOf_eq hv0 _
  | move => rfl

/-! ## Ghosts (R51, R150) -/

theorem computedCoord_cls_valid_iff (c : CoordClass) (v : Int) :
    (computedCoord c v).cls = .valid ↔ c = .valid ∧ -8388607 ≤ v ∧ v ≤ 8388607 := by
  cases c with
  | indefinite => exact ⟨nofun, fun ⟨h, _⟩ => nomatch h⟩
  | offSheet => exact ⟨nofun, fun ⟨h, _⟩ => nomatch h⟩
  | valid =>
    rw [computedCoord_valid_eq]
    constructor
    · intro h
      split at h
      next => cases h
      next =>
        split at h
        next => cases h
        next => exact ⟨rfl, by omega, by omega⟩
    · rintro ⟨-, hlo, hhi⟩
      rw [if_neg (by omega), if_neg (by omega)]

/-- A stored coordinate displaced from a VALID first vertex's. -/
theorem displaceAxis_stored {f v0 : Coord} (hv0 : v0.cls = .valid) (v : BitVec 24) :
    (displaceAxis (storedCoord v) f v0).cls = .valid ↔ v.toInt ≠ -8388608 ∧ f.cls = .valid ∧
      -8388607 ≤ v.toInt + (f.value - v0.value) ∧ v.toInt + (f.value - v0.value) ≤ 8388607 := by
  rw [displaceAxis, computedCoord_cls_valid_iff, worseClass_eq_valid_iff, worseClass_eq_valid_iff,
    storedCoord_cls_valid_iff, storedCoord_value, hv0, and_assoc]
  simp only [and_true]

theorem computedCoord_of_valid {c : CoordClass} {v : Int} (h : (computedCoord c v).cls = .valid) :
    computedCoord c v = ⟨v, .valid⟩ := by
  obtain ⟨rfl, hlo, hhi⟩ := (computedCoord_cls_valid_iff c v).mp h
  rw [computedCoord_valid_eq, if_neg (by omega), if_neg (by omega)]

theorem displaceAxis_of_valid {v : BitVec 24} {f v0 : Coord} (h : (displaceAxis (storedCoord v) f v0).cls = .valid) :
    displaceAxis (storedCoord v) f v0 = ⟨v.toInt + (f.value - v0.value), .valid⟩ := by
  rw [displaceAxis] at h ⊢
  rw [computedCoord_of_valid h, storedCoord_value]

section
variable {f v0 : Point}

/-- The displaced endpoint, where it is VALID. -/
def movedPoint (f v0 : Point) (x y : BitVec 24) : Option Point :=
  let mx := x.toInt + (f.x.value - v0.x.value)
  let my := y.toInt + (f.y.value - v0.y.value)
  if x.toInt ≠ -8388608 ∧ y.toInt ≠ -8388608 ∧ pointValid f = true ∧ -8388607 ≤ mx ∧ mx ≤ 8388607 ∧
    -8388607 ≤ my ∧ my ≤ 8388607 then some ⟨⟨mx, .valid⟩, ⟨my, .valid⟩⟩ else none

theorem movedPoint_cases (hv0 : pointValid v0 = true) (x y : BitVec 24) :
    (pointValid (displace (storedPoint x y) f v0) = true ∧
      movedPoint f v0 x y = some (displace (storedPoint x y) f v0)) ∨
    (pointValid (displace (storedPoint x y) f v0) = false ∧ movedPoint f v0 x y = none) := by
  obtain ⟨hvx, hvy⟩ := (pointValid_iff v0).mp hv0
  have hvalid : pointValid (displace (storedPoint x y) f v0) = true ↔ _ :=
    (pointValid_iff _).trans (and_congr (displaceAxis_stored hvx x) (displaceAxis_stored hvy y))
  cases hp : pointValid (displace (storedPoint x y) f v0) with
  | true =>
    obtain ⟨hx, hy⟩ := (pointValid_iff _).mp hp
    obtain ⟨⟨hsx, hfx, hlx, hhx⟩, hsy, hfy, hly, hhy⟩ := hvalid.mp hp
    refine .inl ⟨rfl, (if_pos ⟨hsx, hsy, (pointValid_iff f).mpr ⟨hfx, hfy⟩, hlx, hhx, hly, hhy⟩).trans ?_⟩
    rw [displace, storedPoint, displaceAxis_of_valid hx, displaceAxis_of_valid hy]
  | false =>
    refine .inr ⟨rfl, if_neg ?_⟩
    rintro ⟨hsx, hsy, hf, hlx, hhx, hly, hhy⟩
    obtain ⟨hfx, hfy⟩ := (pointValid_iff f).mp hf
    rw [hvalid.mpr ⟨⟨hsx, hfx, hlx, hhx⟩, hsy, hfy, hly, hhy⟩] at hp
    cases hp

/-- A ghost segment, drawn where both its displaced endpoints are VALID. -/
theorem segmentOf_displaced (v : View) (hv0 : pointValid v0 = true) (g : GhostSegment) :
    segmentOf v (displace (storedPoint g.x1 g.y1) f v0) (displace (storedPoint g.x2 g.y2) f v0) =
      match movedPoint f v0 g.x1 g.y1, movedPoint f v0 g.x2 g.y2 with
      | some p, some q => [segmentBetween v p q]
      | _, _ => [] := by
  rcases movedPoint_cases (f := f) hv0 g.x1 g.y1 with ⟨hp, hmp⟩ | ⟨hp, hmp⟩
  · rcases movedPoint_cases (f := f) hv0 g.x2 g.y2 with ⟨hq, hmq⟩ | ⟨hq, hmq⟩
    · rw [hmp, hmq]
      exact segmentOf_valid hp hq
    · rw [hmp, hmq]
      exact segmentOf_invalid (.inr hq)
  · rw [hmp]
    exact segmentOf_invalid (.inl hp)

end

theorem ghostShapes_idle {l : FrameLatch} (h : l.gestureState ≠ .tracking ∨ l.gestureKind ≠ .move) :
    ghostShapes l = [] := if_neg fun ⟨htracking, hmove⟩ => h.elim (absurd htracking) (absurd hmove)

theorem ghostShapes_move {l : FrameLatch} {v0 : Point} (htracking : l.gestureState = .tracking)
    (hmove : l.gestureKind = .move) (hhead : l.vertices.head? = some v0) (hv0 : pointValid v0 = true) :
    ghostShapes l = l.ghosts.flatMap fun g =>
      match movedPoint l.shown.point v0 g.x1 g.y1, movedPoint l.shown.point v0 g.x2 g.y2 with
      | some p, some q => [segmentBetween l.view p q]
      | _, _ => [] := by
  rw [ghostShapes, if_pos ⟨htracking, hmove⟩, hhead]
  exact List.flatMap_congr fun g _ => segmentOf_displaced l.view hv0 g

/-! ## O53 -/

theorem overrunCount_eq (l : FrameLatch) (list : List Primitive) : overrunCount l list =
    ((List.range l.height).countP fun y => decide (48 < list.countP fun p => onLine l p (y : Nat))) := by
  rw [List.countP_eq_length_filter]
  simp only [List.countP_eq_length_filter]
  rfl

/-- A pixel lit by the first 48 primitives of its line has a winner. -/
theorem exists_winner {o : Ovc} {x y : Int} {q : Primitive} (hq : q ∈ selected o.latch o.display y)
    (hlit : litCode o.latch q x y ≠ 0) : ∃ p, winner o x y = some (p, litCode o.latch p x y) := by
  cases hw : winner o x y with
  | none => exact absurd (winner_eq_none_iff.mp hw q hq) hlit
  | some entry =>
    obtain ⟨p, code⟩ := entry
    obtain ⟨rfl, -⟩ := winner_eq_some hw
    exact ⟨p, rfl⟩

theorem answer_eq_none_iff {o : Ovc} {x y : Int} : answer o x y = .none ↔
    ∀ p ∈ selected o.latch o.display y, litCode o.latch p x y = 0 := by
  rw [← winner_eq_none_iff]
  refine ⟨fun h => ?_, answer_none⟩
  cases hw : winner o x y with
  | none => rfl
  | some entry =>
    rw [answer_some hw] at h
    split at h
    next => cases h
    next =>
      split at h
      next => cases h
      next => cases h

section
variable {l : FrameLatch} {forced : Bool} {c : OverlayClass}

theorem shownShapes_of_withheld (h : withheld l forced c = true) : shownShapes l forced c = [] := if_pos h

theorem shownShapes_of_shown (h : ¬withheld l forced c = true) : shownShapes l forced c = classShapes l c := if_neg h

end

/-- Settles O53: the answer from the winner's class and place, the overrun count as a count over the lines, and the list
class by class, each formed as its rule gives. -/
theorem answersFollowClassAndListOrder : Obligations.AnswersFollowClassAndListOrder := by
  unfold Obligations.AnswersFollowClassAndListOrder
  refine ⟨fun o x y => ?_, overrunCount_eq, fun l forced => ?_⟩
  · intro part lights rank
    refine ⟨answer_eq_none_iff.trans (forall₂_congr fun p _ => not_not.symm), fun q hq hlit => ?_⟩
    obtain ⟨p, hwinner⟩ := exists_winner hq hlit
    obtain ⟨-, before, after, hpart, hlit, hearliest, hfirst⟩ := winner_eq_some hwinner
    exact ⟨before, after, p, hpart, hlit, hearliest, hfirst, answer_some hwinner⟩
  · intro shapes style withheldAt sx sy segment free drawn
    have hshapes : ∀ c, shapes c = shownShapes l forced c := shapes_displayList l forced
    have hwithheld : ∀ c, Machine.withheld l forced c = true ↔ withheldAt c := withheld_iff l forced
    have hshown : ∀ c, ¬withheldAt c → shapes c = classShapes l c := fun c h =>
      (hshapes c).trans (shownShapes_of_shown fun hw => h ((hwithheld c).mp hw))
    refine ⟨?list, fun c hc => (hshapes c).trans (shownShapes_of_withheld ((hwithheld c).mpr hc)),
      fun hc => ?cursorClass, fun hc => ?markerClass, fun hc => ?rubberClass, fun hc => ?ghostClass⟩
    case list =>
      rw [displayList_eq]
      exact List.flatMap_congr fun c _ => by rw [hshapes]
    case cursorClass =>
      rw [hshown .cursor hc]
      refine ⟨cursorShapes_none, fun p hprox hp => ?_⟩
      rcases hp with ⟨hfree, rfl⟩ | ⟨hfree, hraw, rfl⟩
      · exact cursorShapes_at hprox (if_pos hfree) hfree
      · exact cursorShapes_at hprox ((if_neg (ne_true_of_eq_false hfree)).trans (if_pos hraw)) hraw
    case markerClass =>
      intro named
      have hnamed : ∀ field, markerCode l = l.markers.getD field 16 → named field := fun field hcode glyph hglyph =>
        (hshown .marker hc).trans (markerShapes_of_field hcode hglyph)
      refine ⟨fun o hsource hobject => ?_, fun hsource => hnamed 7 (markerCode_grid hsource),
        fun hsource => hnamed 8 (markerCode_constrained hsource),
        fun hsource => (hshown .marker hc).trans (markerShapes_raw hsource)⟩
      have h := hnamed _ (markerCode_object hsource hobject)
      cases hkind : o.kind <;> rw [hkind] at h <;> exact h
    case rubberClass =>
      rw [hshown .rubber hc]
      exact ⟨rubberShapes_idle, fun v0 last htracking hvalid hhead hlast =>
        rubberShapes_tracking htracking hvalid hhead hlast⟩
    case ghostClass =>
      rw [hshown .ghost hc]
      exact ⟨ghostShapes_idle, fun v0 htracking hmove hhead hv0 => ghostShapes_move htracking hmove hhead hv0⟩

end Sys2Proof.Machine
